-- ==== Sys2Proof/Word.lean ====
section
/-! DEFINITION. Word.lean: the two widths of the hardware (00_scope.md R6, R9). -/

namespace Sys2Proof

/-- An 8-bit value: a register, a memory byte, an operand byte, a port number. -/
abbrev Byte := BitVec 8

/-- A 16-bit value: an address, a register pair, `PC` or `SP`. -/
abbrev Word := BitVec 16

end Sys2Proof
end

