-- ==== Sys2Proof/Config.lean ====
section
/-! DEFINITION. Config.lean: the open parameters of the spec (00_scope.md R7). A parameter the spec leaves open is a
constant with no body, so that a theorem holds for every value of it; `P_UNNAMED_OPS` has the spec's default.
`P_CYCLES` and `P_HALF_BUDGET` are arguments of the definitions of Machine/Scheduler.lean; `P_INPUT` is a host action
of Machine/Environment.lean. -/

namespace Sys2Proof

/-- The two readings of AuxCarry after a subtractive operation (40_dispatch_flags_pairs.md R139). -/
inductive SubAux where
  /-- `AC` is the borrow out of bit 3. -/
  | borrow
  /-- `AC` is the complement of that borrow. -/
  | inverted
  deriving DecidableEq, Repr, Inhabited

/-- Which accumulator value supplies the high nibble that DAA's step two tests (42_arithmetic.md R224). -/
inductive DaaHi where
  /-- The accumulator on entry. -/
  | pre
  /-- The accumulator after step one. -/
  | post
  deriving DecidableEq, Repr, Inhabited

/-- Whether the instructions the source does not name execute (30_encoding.md R103). -/
inductive UnnamedOps where
  /-- They execute. -/
  | execute
  /-- They raise `UnimplementedOpcode`. -/
  | fault
  deriving DecidableEq, Repr, Inhabited

/-- `P_SUB_AUX` (R139, decision D9): open, fixed for a machine. Log 2, DESIGN CHOICE. Safe. -/
opaque Config.subAux : SubAux

/-- `P_DAA_HI` (R224, decision D7): open, fixed for a machine. Log 3, DESIGN CHOICE. Safe. -/
opaque Config.daaHi : DaaHi

/-- `P_ANA_AUX` (43_logical.md R250, decision D11): `AC` after ANA and ANI as a function of the accumulator before, the
operand and the accumulator after, of which nothing is assumed. Log 4, DESIGN CHOICE. Safe. -/
opaque Config.anaAux (aPre v aPost : Byte) : Bool

/-- `P_PORTIN_UNMAPPED` (47_io.md R360, decision D19): the `n`-th value drawn for a read of a port that has no
function. Log 5, DESIGN CHOICE. Safe. -/
opaque Config.portInUnmapped (n : Nat) : Byte

/-- `P_UNNAMED_OPS` (30_encoding.md R103, decision D4, conflict C9): the spec's default. Log 6, DESIGN CHOICE.
Unsafe. -/
def Config.unnamedOps : UnnamedOps := .execute

end Sys2Proof
end

