-- ==== Sys2Proof/Machine/State.lean ====
section
/-! DEFINITION. State.lean: the state of the machine as plain data (10_state.md), its reset value, the names of operands
and conditions, and the reasons a step can stop. -/

namespace Sys2Proof.Machine

/-- The flags byte `F` (10_state.md R28), bits 7 to 0 in order. `bit5`, `bit3` and `bit1` are the unused bits, which are
storage (R29). Held as named bits because every primitive of the flag engine writes one bit (log 1). -/
structure Flags where
  /-- Sign, bit 7. -/
  s : Bool
  /-- Zero, bit 6. -/
  z : Bool
  /-- Unused, bit 5. -/
  bit5 : Bool
  /-- AuxCarry, bit 4. -/
  ac : Bool
  /-- Unused, bit 3. -/
  bit3 : Bool
  /-- Parity, bit 2. -/
  p : Bool
  /-- Unused, bit 1. -/
  bit1 : Bool
  /-- Carry, bit 0. -/
  cy : Bool
  deriving DecidableEq, Repr

/-- A general register by its 3-bit code (30_encoding.md R95). -/
inductive Reg where
  | b | c | d | e | h | l | a
  deriving DecidableEq, Repr

/-- What a 3-bit register code names: a register, or `M`, the memory byte at `HL` (R95). -/
inductive Loc where
  | reg (r : Reg)
  | m
  deriving DecidableEq, Repr

/-- The second operand of a two-operand instruction: register, memory or immediate (42_arithmetic.md R202). -/
inductive Src where
  | reg (r : Reg)
  | m
  | imm (v : Byte)
  deriving DecidableEq, Repr

/-- The pair code of LXI, INX, DCX and DAD (R96). -/
inductive Pair where
  | bc | de | hl | sp
  deriving DecidableEq, Repr

/-- The pair code of PUSH and POP (R97). -/
inductive StackPair where
  | bc | de | hl | psw
  deriving DecidableEq, Repr

/-- The condition code (R101). -/
inductive Cond where
  | nz | z | nc | c | po | pe | p | m
  deriving DecidableEq, Repr

/-- The bit operation of `LogicCore` (43_logical.md R250). -/
inductive LogicOp where
  | and | xor | or
  deriving DecidableEq, Repr

/-- The two sound ports (60_exceptions.md R437). -/
inductive SoundPort where
  | port3 | port5
  deriving DecidableEq, Repr

/-- The sound events of one OUT: the event (port, `i`) for every bit `i` set in `bits`. A mask, because the events of one
OUT are a set with no order (R437). -/
structure SoundEmission where
  port : SoundPort
  bits : Byte
  deriving DecidableEq, Repr

/-- Memory: address and byte pairs. An address that is not listed reads `0x00`, the reset content (10_state.md R36). -/
abbrev Memory := List Host.Cell

/-- The state aggregate (10_state.md R20 to R40), and two fields of the model's own: `sound` and `draws`. -/
structure State where
  /-- The accumulator (R20). -/
  a : Byte
  /-- High byte of `BC` (R22). -/
  b : Byte
  /-- Low byte of `BC`. -/
  c : Byte
  /-- High byte of `DE`. -/
  d : Byte
  /-- Low byte of `DE`. -/
  e : Byte
  /-- High byte of `HL`. -/
  h : Byte
  /-- Low byte of `HL`. -/
  l : Byte
  /-- The flags byte (R28). -/
  f : Flags
  /-- The program counter (R24). -/
  pc : Word
  /-- The stack pointer (R27). -/
  sp : Word
  /-- The interrupt-enabled flag: Armed or Disarmed (R33). -/
  ie : Bool
  /-- The halted flag (R34). -/
  halt : Bool
  /-- The 65536 bytes of memory (R36). -/
  mem : Memory
  /-- The shadow of input port 1 (R38). -/
  p1 : Byte
  /-- The shadow of input port 2 (R38). -/
  p2 : Byte
  /-- The high half of the shift register (R39). -/
  srHi : Byte
  /-- The low half of the shift register (R39). -/
  srLo : Byte
  /-- The shift offset (R39). -/
  srOff : BitVec 3
  /-- The byte last written to port 3 (R40). -/
  snd3 : Byte
  /-- The byte last written to port 5 (R40). -/
  snd5 : Byte
  /-- The model's own: sound events emitted and not yet taken by the host, oldest first (log 8). -/
  sound : List SoundEmission
  /-- The model's own: how many free values have been drawn (log 5). -/
  draws : Nat
  deriving DecidableEq, Repr

/-- Why a step stops with a fault. -/
inductive Fault where
  /-- `UnimplementedOpcode`, carrying the byte: raised by the twelve undefined opcode bytes (48_control.md R375,
  60_exceptions.md R400). No state changes and the run ends. Safe: it is the spec's own outcome. -/
  | unimplementedOpcode (op : Byte)
  deriving DecidableEq, Repr

/-- Why a step is refused. -/
inductive Refusal where
  /-- An instruction with no meaning yet. Raised by no arm of this model. Safe. -/
  | notModelled (mnemonic : String)
  deriving DecidableEq, Repr

/-- The outcome of an instruction (40_dispatch_flags_pairs.md R131). -/
abbrev Result := Host.Outcome State Fault Refusal

/-- The result of an interrupt delivery (60_exceptions.md R402, R410). -/
inductive DeliverResult where
  /-- `Ok`, with the state after it. -/
  | ok (s : State)
  /-- `InvalidVector`: no state changes and the caller may continue. -/
  | invalidVector
  deriving DecidableEq, Repr

/-- All eight bits of `F` clear. -/
def Flags.zero : Flags := ⟨false, false, false, false, false, false, false, false⟩

/-- The machine right after reset: every element zero (10_state.md R45, 70_reset_and_hazards.md R460). The two fields of
the model's own start empty (log 5, log 8). -/
def State.reset : State where
  a := 0
  b := 0
  c := 0
  d := 0
  e := 0
  h := 0
  l := 0
  f := Flags.zero
  pc := 0
  sp := 0
  ie := false
  halt := false
  mem := []
  p1 := 0
  p2 := 0
  srHi := 0
  srLo := 0
  srOff := 0
  snd3 := 0
  snd5 := 0
  sound := []
  draws := 0

end Sys2Proof.Machine
end

