-- ==== Sys2Proof/Machine/Flags.lean ====
section
/-! DEFINITION. Flags.lean: the flag engine (40_dispatch_flags_pairs.md R135 to R141) and every flag computation of the
instruction rules, in the spec's integers. -/

namespace Sys2Proof.Machine

/-- `popcount(v)` (00_scope.md R9). -/
def popcount (v : Byte) : Nat :=
  (v.getLsbD 0).toNat + (v.getLsbD 1).toNat + (v.getLsbD 2).toNat + (v.getLsbD 3).toNat +
    (v.getLsbD 4).toNat + (v.getLsbD 5).toNat + (v.getLsbD 6).toNat + (v.getLsbD 7).toNat

/-- `v[3:0]` as a number. -/
def lowNibble (v : Byte) : Nat := v.toNat % 16

/-- `v[7:4]` as a number. -/
def highNibble (v : Byte) : Nat := v.toNat / 16

/-- `SetZ(v)` (R135). -/
def Flags.setZ (f : Flags) (v : Byte) : Flags := { f with z := decide (v = 0) }

/-- `SetS(v)` (R136). -/
def Flags.setS (f : Flags) (v : Byte) : Flags := { f with s := v.getLsbD 7 }

/-- `SetP(v)`: even parity sets (R137). -/
def Flags.setP (f : Flags) (v : Byte) : Flags := { f with p := decide (popcount v % 2 = 0) }

/-- `SetZSP(v)` (R140). -/
def Flags.setZSP (f : Flags) (v : Byte) : Flags := ((f.setZ v).setS v).setP v

/-- `AC <- b`. -/
def Flags.setAC (f : Flags) (b : Bool) : Flags := { f with ac := b }

/-- `CY <- b` (R141). -/
def Flags.setCY (f : Flags) (b : Bool) : Flags := { f with cy := b }

/-- The bit `AuxAdd(x, y, cin)` writes: the carry out of bit 3 (R138). -/
def auxAdd (x y : Byte) (cin : Bool) : Bool :=
  decide (lowNibble x + lowNibble y + cin.toNat > 15)

/-- `borrow4` of R139: the borrow out of bit 3. -/
def borrow4 (x y : Byte) (bin : Bool) : Bool :=
  decide (lowNibble x < lowNibble y + bin.toNat)

/-- The bit `AuxSub(x, y, bin)` writes under a value of `P_SUB_AUX` (R139). -/
def auxSubWith (reading : SubAux) (x y : Byte) (bin : Bool) : Bool :=
  match reading with
  | .borrow => borrow4 x y bin
  | .inverted => !borrow4 x y bin

/-- The bit `AuxSub(x, y, bin)` writes (R139); `P_SUB_AUX` is open (log 2). -/
def auxSub (x y : Byte) (bin : Bool) : Bool := auxSubWith Config.subAux x y bin

/-- The integer sum of `AddCore` (42_arithmetic.md R200). -/
def addSum (x y : Byte) (cin : Bool) : Nat := x.toNat + y.toNat + cin.toNat

/-- The carry of an 8-bit addition: the 9-bit sum exceeds 255 (R141, R200). -/
def addCarry (x y : Byte) (cin : Bool) : Bool := decide (addSum x y cin > 255)

/-- `(x - y - bin) mod 256` (R201). -/
def subResult (x y : Byte) (bin : Bool) : Byte := x - y - BitVec.ofNat 8 bin.toNat

/-- The carry of an 8-bit subtraction: a borrow (R141, R201). -/
def subCarry (x y : Byte) (bin : Bool) : Bool := decide (y.toNat + bin.toNat > x.toNat)

/-- The flags after an addition of 8-bit operands (R200). -/
def Flags.afterAdd (f : Flags) (x y : Byte) (cin : Bool) : Flags :=
  (((f.setAC (auxAdd x y cin)).setCY (addCarry x y cin))).setZSP (BitVec.ofNat 8 (addSum x y cin))

/-- The flags after a subtraction of 8-bit operands (R201). -/
def Flags.afterSub (f : Flags) (x y : Byte) (bin : Bool) : Flags :=
  ((f.setAC (auxSub x y bin)).setCY (subCarry x y bin)).setZSP (subResult x y bin)

/-- The flags after INR of a value: `CY` is untouched (R217). -/
def Flags.afterInc (f : Flags) (x : Byte) : Flags := (f.setAC (auxAdd x 1 false)).setZSP (x + 1)

/-- The flags after DCR of a value: `CY` is untouched (R219). -/
def Flags.afterDec (f : Flags) (x : Byte) : Flags := (f.setAC (auxSub x 1 false)).setZSP (x - 1)

/-- The result of a bit operation (43_logical.md R250). -/
def logicResult (op : LogicOp) (x v : Byte) : Byte :=
  match op with
  | .and => x &&& v
  | .xor => x ^^^ v
  | .or => x ||| v

/-- `AC` after a bit operation: open for AND (log 4), 0 for XOR and OR (R250). -/
def logicAux (op : LogicOp) (x v : Byte) : Bool :=
  match op with
  | .and => Config.anaAux x v (logicResult .and x v)
  | .xor => false
  | .or => false

/-- The flags after a bit operation (R250). -/
def Flags.afterLogic (f : Flags) (op : LogicOp) (x v : Byte) : Flags :=
  ((f.setZSP (logicResult op x v)).setCY false).setAC (logicAux op x v)

/-- The test of DAA's step one (42_arithmetic.md R224). -/
def daaStep1 (a0 : Byte) (ac0 : Bool) : Bool := decide (lowNibble a0 > 9) || ac0

/-- The accumulator after DAA's step one (R224). -/
def daaA1 (a0 : Byte) (ac0 : Bool) : Byte := if daaStep1 a0 ac0 then a0 + 6 else a0

/-- The high nibble that step two tests, under a value of `P_DAA_HI` (R224). -/
def daaHighWith (reading : DaaHi) (a0 : Byte) (ac0 : Bool) : Nat :=
  match reading with
  | .pre => highNibble a0
  | .post => highNibble (daaA1 a0 ac0)

/-- The test of DAA's step two: the flag tested is the `CY` on entry (R224, conflict C4). -/
def daaStep2With (reading : DaaHi) (a0 : Byte) (ac0 cy0 : Bool) : Bool :=
  decide (daaHighWith reading a0 ac0 > 9) || cy0

/-- The accumulator after DAA (R224, decision D8). -/
def daaResultWith (reading : DaaHi) (a0 : Byte) (ac0 cy0 : Bool) : Byte :=
  if daaStep2With reading a0 ac0 cy0 then daaA1 a0 ac0 + 0x60 else daaA1 a0 ac0

/-- The flags after DAA (R224). -/
def Flags.afterDaaWith (reading : DaaHi) (f : Flags) (a0 : Byte) : Flags :=
  ((f.setAC (daaStep1 a0 f.ac)).setCY (daaStep2With reading a0 f.ac f.cy)).setZSP
    (daaResultWith reading a0 f.ac f.cy)

/-- The integer sum of DAD (R223, conflict C5). -/
def dadSum (x y : Word) : Nat := x.toNat + y.toNat

end Sys2Proof.Machine
end

