-- ==== Sys2Proof/Syntax.lean ====
section
/-! DEFINITION. Syntax.lean: the instructions, one constructor per mnemonic of spec/opcode_table.json.
The operand bytes of the formats F2 and F3 (30_encoding.md R91, R98, R99) are the constructor's argument;
register, pair, condition and vector codes are part of the opcode byte and so of the constructor's name. -/

namespace Sys2Proof

/-- An instruction of I8080-CORE (30_encoding.md R100). -/
inductive Instr where
  /-- `NOP`, opcode `0x00`, R370. -/
  | nop
  /-- `LXI B`, opcode `0x01`, R165. -/
  | lxiB (data16 : Word)
  /-- `STAX B`, opcode `0x02`, R169. -/
  | staxB
  /-- `INX B`, opcode `0x03`, R221. -/
  | inxB
  /-- `INR B`, opcode `0x04`, R217. -/
  | inrB
  /-- `DCR B`, opcode `0x05`, R219. -/
  | dcrB
  /-- `MVI B`, opcode `0x06`, R163. -/
  | mviB (data : Byte)
  /-- `RLC`, opcode `0x07`, R290. -/
  | rlc
  /-- One of the twelve opcode bytes that select no instruction (`0x08` is the first), with that byte (R105, R375). -/
  | undefined (op : Byte)
  /-- `DAD B`, opcode `0x09`, R223. -/
  | dadB
  /-- `LDAX B`, opcode `0x0A`, R168. -/
  | ldaxB
  /-- `DCX B`, opcode `0x0B`, R222. -/
  | dcxB
  /-- `INR C`, opcode `0x0C`, R217. -/
  | inrC
  /-- `DCR C`, opcode `0x0D`, R219. -/
  | dcrC
  /-- `MVI C`, opcode `0x0E`, R163. -/
  | mviC (data : Byte)
  /-- `RRC`, opcode `0x0F`, R291. -/
  | rrc
  /-- `LXI D`, opcode `0x11`, R165. -/
  | lxiD (data16 : Word)
  /-- `STAX D`, opcode `0x12`, R169. -/
  | staxD
  /-- `INX D`, opcode `0x13`, R221. -/
  | inxD
  /-- `INR D`, opcode `0x14`, R217. -/
  | inrD
  /-- `DCR D`, opcode `0x15`, R219. -/
  | dcrD
  /-- `MVI D`, opcode `0x16`, R163. -/
  | mviD (data : Byte)
  /-- `RAL`, opcode `0x17`, R292. -/
  | ral
  /-- `DAD D`, opcode `0x19`, R223. -/
  | dadD
  /-- `LDAX D`, opcode `0x1A`, R168. -/
  | ldaxD
  /-- `DCX D`, opcode `0x1B`, R222. -/
  | dcxD
  /-- `INR E`, opcode `0x1C`, R217. -/
  | inrE
  /-- `DCR E`, opcode `0x1D`, R219. -/
  | dcrE
  /-- `MVI E`, opcode `0x1E`, R163. -/
  | mviE (data : Byte)
  /-- `RAR`, opcode `0x1F`, R293. -/
  | rar
  /-- `LXI H`, opcode `0x21`, R165. -/
  | lxiH (data16 : Word)
  /-- `SHLD`, opcode `0x22`, R171. -/
  | shld (addr : Word)
  /-- `INX H`, opcode `0x23`, R221. -/
  | inxH
  /-- `INR H`, opcode `0x24`, R217. -/
  | inrH
  /-- `DCR H`, opcode `0x25`, R219. -/
  | dcrH
  /-- `MVI H`, opcode `0x26`, R163. -/
  | mviH (data : Byte)
  /-- `DAA`, opcode `0x27`, R224. -/
  | daa
  /-- `DAD H`, opcode `0x29`, R223. -/
  | dadH
  /-- `LHLD`, opcode `0x2A`, R170. -/
  | lhld (addr : Word)
  /-- `DCX H`, opcode `0x2B`, R222. -/
  | dcxH
  /-- `INR L`, opcode `0x2C`, R217. -/
  | inrL
  /-- `DCR L`, opcode `0x2D`, R219. -/
  | dcrL
  /-- `MVI L`, opcode `0x2E`, R163. -/
  | mviL (data : Byte)
  /-- `CMA`, opcode `0x2F`, R264. -/
  | cma
  /-- `LXI SP`, opcode `0x31`, R165. -/
  | lxiSP (data16 : Word)
  /-- `STA`, opcode `0x32`, R167. -/
  | sta (addr : Word)
  /-- `INX SP`, opcode `0x33`, R221. -/
  | inxSP
  /-- `INR M`, opcode `0x34`, R218. -/
  | inrM
  /-- `DCR M`, opcode `0x35`, R220. -/
  | dcrM
  /-- `MVI M`, opcode `0x36`, R164. -/
  | mviM (data : Byte)
  /-- `STC`, opcode `0x37`, R265. -/
  | stc
  /-- `DAD SP`, opcode `0x39`, R223. -/
  | dadSP
  /-- `LDA`, opcode `0x3A`, R166. -/
  | lda (addr : Word)
  /-- `DCX SP`, opcode `0x3B`, R222. -/
  | dcxSP
  /-- `INR A`, opcode `0x3C`, R217. -/
  | inrA
  /-- `DCR A`, opcode `0x3D`, R219. -/
  | dcrA
  /-- `MVI A`, opcode `0x3E`, R163. -/
  | mviA (data : Byte)
  /-- `CMC`, opcode `0x3F`, R266. -/
  | cmc
  /-- `MOV B,B`, opcode `0x40`, R160. -/
  | movBB
  /-- `MOV B,C`, opcode `0x41`, R160. -/
  | movBC
  /-- `MOV B,D`, opcode `0x42`, R160. -/
  | movBD
  /-- `MOV B,E`, opcode `0x43`, R160. -/
  | movBE
  /-- `MOV B,H`, opcode `0x44`, R160. -/
  | movBH
  /-- `MOV B,L`, opcode `0x45`, R160. -/
  | movBL
  /-- `MOV B,M`, opcode `0x46`, R161. -/
  | movBM
  /-- `MOV B,A`, opcode `0x47`, R160. -/
  | movBA
  /-- `MOV C,B`, opcode `0x48`, R160. -/
  | movCB
  /-- `MOV C,C`, opcode `0x49`, R160. -/
  | movCC
  /-- `MOV C,D`, opcode `0x4A`, R160. -/
  | movCD
  /-- `MOV C,E`, opcode `0x4B`, R160. -/
  | movCE
  /-- `MOV C,H`, opcode `0x4C`, R160. -/
  | movCH
  /-- `MOV C,L`, opcode `0x4D`, R160. -/
  | movCL
  /-- `MOV C,M`, opcode `0x4E`, R161. -/
  | movCM
  /-- `MOV C,A`, opcode `0x4F`, R160. -/
  | movCA
  /-- `MOV D,B`, opcode `0x50`, R160. -/
  | movDB
  /-- `MOV D,C`, opcode `0x51`, R160. -/
  | movDC
  /-- `MOV D,D`, opcode `0x52`, R160. -/
  | movDD
  /-- `MOV D,E`, opcode `0x53`, R160. -/
  | movDE
  /-- `MOV D,H`, opcode `0x54`, R160. -/
  | movDH
  /-- `MOV D,L`, opcode `0x55`, R160. -/
  | movDL
  /-- `MOV D,M`, opcode `0x56`, R161. -/
  | movDM
  /-- `MOV D,A`, opcode `0x57`, R160. -/
  | movDA
  /-- `MOV E,B`, opcode `0x58`, R160. -/
  | movEB
  /-- `MOV E,C`, opcode `0x59`, R160. -/
  | movEC
  /-- `MOV E,D`, opcode `0x5A`, R160. -/
  | movED
  /-- `MOV E,E`, opcode `0x5B`, R160. -/
  | movEE
  /-- `MOV E,H`, opcode `0x5C`, R160. -/
  | movEH
  /-- `MOV E,L`, opcode `0x5D`, R160. -/
  | movEL
  /-- `MOV E,M`, opcode `0x5E`, R161. -/
  | movEM
  /-- `MOV E,A`, opcode `0x5F`, R160. -/
  | movEA
  /-- `MOV H,B`, opcode `0x60`, R160. -/
  | movHB
  /-- `MOV H,C`, opcode `0x61`, R160. -/
  | movHC
  /-- `MOV H,D`, opcode `0x62`, R160. -/
  | movHD
  /-- `MOV H,E`, opcode `0x63`, R160. -/
  | movHE
  /-- `MOV H,H`, opcode `0x64`, R160. -/
  | movHH
  /-- `MOV H,L`, opcode `0x65`, R160. -/
  | movHL
  /-- `MOV H,M`, opcode `0x66`, R161. -/
  | movHM
  /-- `MOV H,A`, opcode `0x67`, R160. -/
  | movHA
  /-- `MOV L,B`, opcode `0x68`, R160. -/
  | movLB
  /-- `MOV L,C`, opcode `0x69`, R160. -/
  | movLC
  /-- `MOV L,D`, opcode `0x6A`, R160. -/
  | movLD
  /-- `MOV L,E`, opcode `0x6B`, R160. -/
  | movLE
  /-- `MOV L,H`, opcode `0x6C`, R160. -/
  | movLH
  /-- `MOV L,L`, opcode `0x6D`, R160. -/
  | movLL
  /-- `MOV L,M`, opcode `0x6E`, R161. -/
  | movLM
  /-- `MOV L,A`, opcode `0x6F`, R160. -/
  | movLA
  /-- `MOV M,B`, opcode `0x70`, R162. -/
  | movMB
  /-- `MOV M,C`, opcode `0x71`, R162. -/
  | movMC
  /-- `MOV M,D`, opcode `0x72`, R162. -/
  | movMD
  /-- `MOV M,E`, opcode `0x73`, R162. -/
  | movME
  /-- `MOV M,H`, opcode `0x74`, R162. -/
  | movMH
  /-- `MOV M,L`, opcode `0x75`, R162. -/
  | movML
  /-- `HLT`, opcode `0x76`, R373. -/
  | hlt
  /-- `MOV M,A`, opcode `0x77`, R162. -/
  | movMA
  /-- `MOV A,B`, opcode `0x78`, R160. -/
  | movAB
  /-- `MOV A,C`, opcode `0x79`, R160. -/
  | movAC
  /-- `MOV A,D`, opcode `0x7A`, R160. -/
  | movAD
  /-- `MOV A,E`, opcode `0x7B`, R160. -/
  | movAE
  /-- `MOV A,H`, opcode `0x7C`, R160. -/
  | movAH
  /-- `MOV A,L`, opcode `0x7D`, R160. -/
  | movAL
  /-- `MOV A,M`, opcode `0x7E`, R161. -/
  | movAM
  /-- `MOV A,A`, opcode `0x7F`, R160. -/
  | movAA
  /-- `ADD B`, opcode `0x80`, R205. -/
  | addB
  /-- `ADD C`, opcode `0x81`, R205. -/
  | addC
  /-- `ADD D`, opcode `0x82`, R205. -/
  | addD
  /-- `ADD E`, opcode `0x83`, R205. -/
  | addE
  /-- `ADD H`, opcode `0x84`, R205. -/
  | addH
  /-- `ADD L`, opcode `0x85`, R205. -/
  | addL
  /-- `ADD M`, opcode `0x86`, R206. -/
  | addM
  /-- `ADD A`, opcode `0x87`, R205. -/
  | addA
  /-- `ADC B`, opcode `0x88`, R208. -/
  | adcB
  /-- `ADC C`, opcode `0x89`, R208. -/
  | adcC
  /-- `ADC D`, opcode `0x8A`, R208. -/
  | adcD
  /-- `ADC E`, opcode `0x8B`, R208. -/
  | adcE
  /-- `ADC H`, opcode `0x8C`, R208. -/
  | adcH
  /-- `ADC L`, opcode `0x8D`, R208. -/
  | adcL
  /-- `ADC M`, opcode `0x8E`, R209. -/
  | adcM
  /-- `ADC A`, opcode `0x8F`, R208. -/
  | adcA
  /-- `SUB B`, opcode `0x90`, R211. -/
  | subB
  /-- `SUB C`, opcode `0x91`, R211. -/
  | subC
  /-- `SUB D`, opcode `0x92`, R211. -/
  | subD
  /-- `SUB E`, opcode `0x93`, R211. -/
  | subE
  /-- `SUB H`, opcode `0x94`, R211. -/
  | subH
  /-- `SUB L`, opcode `0x95`, R211. -/
  | subL
  /-- `SUB M`, opcode `0x96`, R212. -/
  | subM
  /-- `SUB A`, opcode `0x97`, R211. -/
  | subA
  /-- `SBB B`, opcode `0x98`, R214. -/
  | sbbB
  /-- `SBB C`, opcode `0x99`, R214. -/
  | sbbC
  /-- `SBB D`, opcode `0x9A`, R214. -/
  | sbbD
  /-- `SBB E`, opcode `0x9B`, R214. -/
  | sbbE
  /-- `SBB H`, opcode `0x9C`, R214. -/
  | sbbH
  /-- `SBB L`, opcode `0x9D`, R214. -/
  | sbbL
  /-- `SBB M`, opcode `0x9E`, R215. -/
  | sbbM
  /-- `SBB A`, opcode `0x9F`, R214. -/
  | sbbA
  /-- `ANA B`, opcode `0xA0`, R252. -/
  | anaB
  /-- `ANA C`, opcode `0xA1`, R252. -/
  | anaC
  /-- `ANA D`, opcode `0xA2`, R252. -/
  | anaD
  /-- `ANA E`, opcode `0xA3`, R252. -/
  | anaE
  /-- `ANA H`, opcode `0xA4`, R252. -/
  | anaH
  /-- `ANA L`, opcode `0xA5`, R252. -/
  | anaL
  /-- `ANA M`, opcode `0xA6`, R253. -/
  | anaM
  /-- `ANA A`, opcode `0xA7`, R252. -/
  | anaA
  /-- `XRA B`, opcode `0xA8`, R255. -/
  | xraB
  /-- `XRA C`, opcode `0xA9`, R255. -/
  | xraC
  /-- `XRA D`, opcode `0xAA`, R255. -/
  | xraD
  /-- `XRA E`, opcode `0xAB`, R255. -/
  | xraE
  /-- `XRA H`, opcode `0xAC`, R255. -/
  | xraH
  /-- `XRA L`, opcode `0xAD`, R255. -/
  | xraL
  /-- `XRA M`, opcode `0xAE`, R256. -/
  | xraM
  /-- `XRA A`, opcode `0xAF`, R255. -/
  | xraA
  /-- `ORA B`, opcode `0xB0`, R258. -/
  | oraB
  /-- `ORA C`, opcode `0xB1`, R258. -/
  | oraC
  /-- `ORA D`, opcode `0xB2`, R258. -/
  | oraD
  /-- `ORA E`, opcode `0xB3`, R258. -/
  | oraE
  /-- `ORA H`, opcode `0xB4`, R258. -/
  | oraH
  /-- `ORA L`, opcode `0xB5`, R258. -/
  | oraL
  /-- `ORA M`, opcode `0xB6`, R259. -/
  | oraM
  /-- `ORA A`, opcode `0xB7`, R258. -/
  | oraA
  /-- `CMP B`, opcode `0xB8`, R261. -/
  | cmpB
  /-- `CMP C`, opcode `0xB9`, R261. -/
  | cmpC
  /-- `CMP D`, opcode `0xBA`, R261. -/
  | cmpD
  /-- `CMP E`, opcode `0xBB`, R261. -/
  | cmpE
  /-- `CMP H`, opcode `0xBC`, R261. -/
  | cmpH
  /-- `CMP L`, opcode `0xBD`, R261. -/
  | cmpL
  /-- `CMP M`, opcode `0xBE`, R262. -/
  | cmpM
  /-- `CMP A`, opcode `0xBF`, R261. -/
  | cmpA
  /-- `RNZ`, opcode `0xC0`, R305. -/
  | rnz
  /-- `POP B`, opcode `0xC1`, R343. -/
  | popB
  /-- `JNZ`, opcode `0xC2`, R301. -/
  | jnz (addr : Word)
  /-- `JMP`, opcode `0xC3`, R300. -/
  | jmp (addr : Word)
  /-- `CNZ`, opcode `0xC4`, R303. -/
  | cnz (addr : Word)
  /-- `PUSH B`, opcode `0xC5`, R341. -/
  | pushB
  /-- `ADI`, opcode `0xC6`, R207. -/
  | adi (data : Byte)
  /-- `RST 0`, opcode `0xC7`, R307. -/
  | rst0
  /-- `RZ`, opcode `0xC8`, R305. -/
  | rz
  /-- `RET`, opcode `0xC9`, R304. -/
  | ret
  /-- `JZ`, opcode `0xCA`, R301. -/
  | jz (addr : Word)
  /-- `CZ`, opcode `0xCC`, R303. -/
  | cz (addr : Word)
  /-- `CALL`, opcode `0xCD`, R302. -/
  | call (addr : Word)
  /-- `ACI`, opcode `0xCE`, R210. -/
  | aci (data : Byte)
  /-- `RST 1`, opcode `0xCF`, R307. -/
  | rst1
  /-- `RNC`, opcode `0xD0`, R305. -/
  | rnc
  /-- `POP D`, opcode `0xD1`, R343. -/
  | popD
  /-- `JNC`, opcode `0xD2`, R301. -/
  | jnc (addr : Word)
  /-- `OUT`, opcode `0xD3`, R361. -/
  | outPort (port : Byte)
  /-- `CNC`, opcode `0xD4`, R303. -/
  | cnc (addr : Word)
  /-- `PUSH D`, opcode `0xD5`, R341. -/
  | pushD
  /-- `SUI`, opcode `0xD6`, R213. -/
  | sui (data : Byte)
  /-- `RST 2`, opcode `0xD7`, R307. -/
  | rst2
  /-- `RC`, opcode `0xD8`, R305. -/
  | rc
  /-- `JC`, opcode `0xDA`, R301. -/
  | jc (addr : Word)
  /-- `IN`, opcode `0xDB`, R360. -/
  | inPort (port : Byte)
  /-- `CC`, opcode `0xDC`, R303. -/
  | cc (addr : Word)
  /-- `SBI`, opcode `0xDE`, R216. -/
  | sbi (data : Byte)
  /-- `RST 3`, opcode `0xDF`, R307. -/
  | rst3
  /-- `RPO`, opcode `0xE0`, R305. -/
  | rpo
  /-- `POP H`, opcode `0xE1`, R343. -/
  | popH
  /-- `JPO`, opcode `0xE2`, R301. -/
  | jpo (addr : Word)
  /-- `XTHL`, opcode `0xE3`, R173. -/
  | xthl
  /-- `CPO`, opcode `0xE4`, R303. -/
  | cpo (addr : Word)
  /-- `PUSH H`, opcode `0xE5`, R341. -/
  | pushH
  /-- `ANI`, opcode `0xE6`, R254. -/
  | ani (data : Byte)
  /-- `RST 4`, opcode `0xE7`, R307. -/
  | rst4
  /-- `RPE`, opcode `0xE8`, R305. -/
  | rpe
  /-- `PCHL`, opcode `0xE9`, R306. -/
  | pchl
  /-- `JPE`, opcode `0xEA`, R301. -/
  | jpe (addr : Word)
  /-- `XCHG`, opcode `0xEB`, R172. -/
  | xchg
  /-- `CPE`, opcode `0xEC`, R303. -/
  | cpe (addr : Word)
  /-- `XRI`, opcode `0xEE`, R257. -/
  | xri (data : Byte)
  /-- `RST 5`, opcode `0xEF`, R307. -/
  | rst5
  /-- `RP`, opcode `0xF0`, R305. -/
  | rp
  /-- `POP PSW`, opcode `0xF1`, R344. -/
  | popPSW
  /-- `JP`, opcode `0xF2`, R301. -/
  | jp (addr : Word)
  /-- `DI`, opcode `0xF3`, R372. -/
  | di
  /-- `CP`, opcode `0xF4`, R303. -/
  | cp (addr : Word)
  /-- `PUSH PSW`, opcode `0xF5`, R342. -/
  | pushPSW
  /-- `ORI`, opcode `0xF6`, R260. -/
  | ori (data : Byte)
  /-- `RST 6`, opcode `0xF7`, R307. -/
  | rst6
  /-- `RM`, opcode `0xF8`, R305. -/
  | rm
  /-- `SPHL`, opcode `0xF9`, R345. -/
  | sphl
  /-- `JM`, opcode `0xFA`, R301. -/
  | jm (addr : Word)
  /-- `EI`, opcode `0xFB`, R371. -/
  | ei
  /-- `CM`, opcode `0xFC`, R303. -/
  | cm (addr : Word)
  /-- `CPI`, opcode `0xFE`, R263. -/
  | cpi (data : Byte)
  /-- `RST 7`, opcode `0xFF`, R307. -/
  | rst7
  deriving DecidableEq, Repr

end Sys2Proof
end

