-- ==== Sys2Proof/WellFormed.lean ====
section
/-! DEFINITION. WellFormed.lean: which values of `Instr` stand for an instruction. Every operand byte is legal
(30_encoding.md R106); the only check is that `undefined` carries one of the twelve undefined bytes (R105). -/

namespace Sys2Proof

/-- The twelve opcode bytes that select no instruction (30_encoding.md R105). -/
def undefinedOpcodes : List Byte :=
  [0x08, 0x10, 0x18, 0x20, 0x28, 0x30, 0x38, 0xCB, 0xD9, 0xDD, 0xED, 0xFD]

/-- The instruction is one the encoding can express. -/
def Instr.wellFormed : Instr → Bool
  | .nop | .lxiB _ | .staxB | .inxB | .inrB | .dcrB | .mviB _ | .rlc | .dadB | .ldaxB | .dcxB | .inrC | .dcrC
  | .mviC _ | .rrc | .lxiD _ | .staxD | .inxD | .inrD | .dcrD | .mviD _ | .ral | .dadD | .ldaxD | .dcxD | .inrE
  | .dcrE | .mviE _ | .rar | .lxiH _ | .shld _ | .inxH | .inrH | .dcrH | .mviH _ | .daa | .dadH | .lhld _
  | .dcxH | .inrL | .dcrL | .mviL _ | .cma | .lxiSP _ | .sta _ | .inxSP | .inrM | .dcrM | .mviM _ | .stc
  | .dadSP | .lda _ | .dcxSP | .inrA | .dcrA | .mviA _ | .cmc | .movBB | .movBC | .movBD | .movBE | .movBH
  | .movBL | .movBM | .movBA | .movCB | .movCC | .movCD | .movCE | .movCH | .movCL | .movCM | .movCA | .movDB
  | .movDC | .movDD | .movDE | .movDH | .movDL | .movDM | .movDA | .movEB | .movEC | .movED | .movEE | .movEH
  | .movEL | .movEM | .movEA | .movHB | .movHC | .movHD | .movHE | .movHH | .movHL | .movHM | .movHA | .movLB
  | .movLC | .movLD | .movLE | .movLH | .movLL | .movLM | .movLA | .movMB | .movMC | .movMD | .movME | .movMH
  | .movML | .hlt | .movMA | .movAB | .movAC | .movAD | .movAE | .movAH | .movAL | .movAM | .movAA | .addB
  | .addC | .addD | .addE | .addH | .addL | .addM | .addA | .adcB | .adcC | .adcD | .adcE | .adcH | .adcL
  | .adcM | .adcA | .subB | .subC | .subD | .subE | .subH | .subL | .subM | .subA | .sbbB | .sbbC | .sbbD
  | .sbbE | .sbbH | .sbbL | .sbbM | .sbbA | .anaB | .anaC | .anaD | .anaE | .anaH | .anaL | .anaM | .anaA
  | .xraB | .xraC | .xraD | .xraE | .xraH | .xraL | .xraM | .xraA | .oraB | .oraC | .oraD | .oraE | .oraH
  | .oraL | .oraM | .oraA | .cmpB | .cmpC | .cmpD | .cmpE | .cmpH | .cmpL | .cmpM | .cmpA | .rnz | .popB
  | .jnz _ | .jmp _ | .cnz _ | .pushB | .adi _ | .rst0 | .rz | .ret | .jz _ | .cz _ | .call _ | .aci _ | .rst1
  | .rnc | .popD | .jnc _ | .outPort _ | .cnc _ | .pushD | .sui _ | .rst2 | .rc | .jc _ | .inPort _ | .cc _
  | .sbi _ | .rst3 | .rpo | .popH | .jpo _ | .xthl | .cpo _ | .pushH | .ani _ | .rst4 | .rpe | .pchl | .jpe _
  | .xchg | .cpe _ | .xri _ | .rst5 | .rp | .popPSW | .jp _ | .di | .cp _ | .pushPSW | .ori _ | .rst6 | .rm
  | .sphl | .jm _ | .ei | .cm _ | .cpi _ | .rst7 => true
  | .undefined op => undefinedOpcodes.contains op

end Sys2Proof
end

