-- ==== Sys2Proof/Decode.lean ====
section
/-! DEFINITION. Decode.lean: the decoder and the encoder, both written from the opcode map (30_encoding.md R90 to R107),
and the byte-order helpers that operand assembly and the machine share. -/

namespace Sys2Proof

/-- `{hi, lo}` of 00_scope.md R8. -/
def joinBytes (hi lo : Byte) : Word := hi ++ lo

/-- `v[15:8]`. -/
def hiByte (v : Word) : Byte := v.extractLsb' 8 8

/-- `v[7:0]`. -/
def loByte (v : Word) : Byte := v.extractLsb' 0 8

/-- The opcodes of three bytes (R92). -/
def threeByteOpcodes : List Byte :=
  [0x01, 0x11, 0x21, 0x31, 0x22, 0x2A, 0x32, 0x3A, 0xC3, 0xCD,
   0xC2, 0xCA, 0xD2, 0xDA, 0xE2, 0xEA, 0xF2, 0xFA,
   0xC4, 0xCC, 0xD4, 0xDC, 0xE4, 0xEC, 0xF4, 0xFC]

/-- The opcodes of two bytes (R92). -/
def twoByteOpcodes : List Byte :=
  [0x06, 0x0E, 0x16, 0x1E, 0x26, 0x2E, 0x36, 0x3E,
   0xC6, 0xCE, 0xD6, 0xDE, 0xE6, 0xEE, 0xF6, 0xFE, 0xD3, 0xDB]

/-- How many bytes the decoder takes for an opcode byte (R92). The twelve undefined bytes have no length in the spec;
the decoder takes the one byte (log 12). -/
def opLength (op : Byte) : Nat :=
  if threeByteOpcodes.contains op then 3 else if twoByteOpcodes.contains op then 2 else 1

/-- Row `0x` of the opcode map (R100); `b1`, `b2` are the bytes at `PC+1`, `PC+2`. -/
def mapRow0 (b1 b2 : Byte) : List Instr :=
  [.nop, .lxiB (joinBytes b2 b1), .staxB, .inxB, .inrB, .dcrB, .mviB b1, .rlc, .undefined 0x08, .dadB,
   .ldaxB, .dcxB, .inrC, .dcrC, .mviC b1, .rrc]

/-- Row `1x` of the opcode map (R100); `b1`, `b2` are the bytes at `PC+1`, `PC+2`. -/
def mapRow1 (b1 b2 : Byte) : List Instr :=
  [.undefined 0x10, .lxiD (joinBytes b2 b1), .staxD, .inxD, .inrD, .dcrD, .mviD b1, .ral, .undefined 0x18,
   .dadD, .ldaxD, .dcxD, .inrE, .dcrE, .mviE b1, .rar]

/-- Row `2x` of the opcode map (R100); `b1`, `b2` are the bytes at `PC+1`, `PC+2`. -/
def mapRow2 (b1 b2 : Byte) : List Instr :=
  [.undefined 0x20, .lxiH (joinBytes b2 b1), .shld (joinBytes b2 b1), .inxH, .inrH, .dcrH, .mviH b1, .daa,
   .undefined 0x28, .dadH, .lhld (joinBytes b2 b1), .dcxH, .inrL, .dcrL, .mviL b1, .cma]

/-- Row `3x` of the opcode map (R100); `b1`, `b2` are the bytes at `PC+1`, `PC+2`. -/
def mapRow3 (b1 b2 : Byte) : List Instr :=
  [.undefined 0x30, .lxiSP (joinBytes b2 b1), .sta (joinBytes b2 b1), .inxSP, .inrM, .dcrM, .mviM b1, .stc,
   .undefined 0x38, .dadSP, .lda (joinBytes b2 b1), .dcxSP, .inrA, .dcrA, .mviA b1, .cmc]

/-- Row `4x` of the opcode map (R100); `b1`, `b2` are the bytes at `PC+1`, `PC+2`. -/
def mapRow4 (_b1 _b2 : Byte) : List Instr :=
  [.movBB, .movBC, .movBD, .movBE, .movBH, .movBL, .movBM, .movBA, .movCB, .movCC, .movCD, .movCE, .movCH,
   .movCL, .movCM, .movCA]

/-- Row `5x` of the opcode map (R100); `b1`, `b2` are the bytes at `PC+1`, `PC+2`. -/
def mapRow5 (_b1 _b2 : Byte) : List Instr :=
  [.movDB, .movDC, .movDD, .movDE, .movDH, .movDL, .movDM, .movDA, .movEB, .movEC, .movED, .movEE, .movEH,
   .movEL, .movEM, .movEA]

/-- Row `6x` of the opcode map (R100); `b1`, `b2` are the bytes at `PC+1`, `PC+2`. -/
def mapRow6 (_b1 _b2 : Byte) : List Instr :=
  [.movHB, .movHC, .movHD, .movHE, .movHH, .movHL, .movHM, .movHA, .movLB, .movLC, .movLD, .movLE, .movLH,
   .movLL, .movLM, .movLA]

/-- Row `7x` of the opcode map (R100); `b1`, `b2` are the bytes at `PC+1`, `PC+2`. -/
def mapRow7 (_b1 _b2 : Byte) : List Instr :=
  [.movMB, .movMC, .movMD, .movME, .movMH, .movML, .hlt, .movMA, .movAB, .movAC, .movAD, .movAE, .movAH,
   .movAL, .movAM, .movAA]

/-- Row `8x` of the opcode map (R100); `b1`, `b2` are the bytes at `PC+1`, `PC+2`. -/
def mapRow8 (_b1 _b2 : Byte) : List Instr :=
  [.addB, .addC, .addD, .addE, .addH, .addL, .addM, .addA, .adcB, .adcC, .adcD, .adcE, .adcH, .adcL, .adcM,
   .adcA]

/-- Row `9x` of the opcode map (R100); `b1`, `b2` are the bytes at `PC+1`, `PC+2`. -/
def mapRow9 (_b1 _b2 : Byte) : List Instr :=
  [.subB, .subC, .subD, .subE, .subH, .subL, .subM, .subA, .sbbB, .sbbC, .sbbD, .sbbE, .sbbH, .sbbL, .sbbM,
   .sbbA]

/-- Row `Ax` of the opcode map (R100); `b1`, `b2` are the bytes at `PC+1`, `PC+2`. -/
def mapRowA (_b1 _b2 : Byte) : List Instr :=
  [.anaB, .anaC, .anaD, .anaE, .anaH, .anaL, .anaM, .anaA, .xraB, .xraC, .xraD, .xraE, .xraH, .xraL, .xraM,
   .xraA]

/-- Row `Bx` of the opcode map (R100); `b1`, `b2` are the bytes at `PC+1`, `PC+2`. -/
def mapRowB (_b1 _b2 : Byte) : List Instr :=
  [.oraB, .oraC, .oraD, .oraE, .oraH, .oraL, .oraM, .oraA, .cmpB, .cmpC, .cmpD, .cmpE, .cmpH, .cmpL, .cmpM,
   .cmpA]

/-- Row `Cx` of the opcode map (R100); `b1`, `b2` are the bytes at `PC+1`, `PC+2`. -/
def mapRowC (b1 b2 : Byte) : List Instr :=
  [.rnz, .popB, .jnz (joinBytes b2 b1), .jmp (joinBytes b2 b1), .cnz (joinBytes b2 b1), .pushB, .adi b1,
   .rst0, .rz, .ret, .jz (joinBytes b2 b1), .undefined 0xCB, .cz (joinBytes b2 b1),
   .call (joinBytes b2 b1), .aci b1, .rst1]

/-- Row `Dx` of the opcode map (R100); `b1`, `b2` are the bytes at `PC+1`, `PC+2`. -/
def mapRowD (b1 b2 : Byte) : List Instr :=
  [.rnc, .popD, .jnc (joinBytes b2 b1), .outPort b1, .cnc (joinBytes b2 b1), .pushD, .sui b1, .rst2, .rc,
   .undefined 0xD9, .jc (joinBytes b2 b1), .inPort b1, .cc (joinBytes b2 b1), .undefined 0xDD, .sbi b1,
   .rst3]

/-- Row `Ex` of the opcode map (R100); `b1`, `b2` are the bytes at `PC+1`, `PC+2`. -/
def mapRowE (b1 b2 : Byte) : List Instr :=
  [.rpo, .popH, .jpo (joinBytes b2 b1), .xthl, .cpo (joinBytes b2 b1), .pushH, .ani b1, .rst4, .rpe, .pchl,
   .jpe (joinBytes b2 b1), .xchg, .cpe (joinBytes b2 b1), .undefined 0xED, .xri b1, .rst5]

/-- Row `Fx` of the opcode map (R100); `b1`, `b2` are the bytes at `PC+1`, `PC+2`. -/
def mapRowF (b1 b2 : Byte) : List Instr :=
  [.rp, .popPSW, .jp (joinBytes b2 b1), .di, .cp (joinBytes b2 b1), .pushPSW, .ori b1, .rst6, .rm, .sphl,
   .jm (joinBytes b2 b1), .ei, .cm (joinBytes b2 b1), .undefined 0xFD, .cpi b1, .rst7]

/-- The opcode map by high nibble (R100). -/
def opcodeMap (b1 b2 : Byte) : List (List Instr) :=
  [mapRow0 b1 b2, mapRow1 b1 b2, mapRow2 b1 b2, mapRow3 b1 b2, mapRow4 b1 b2, mapRow5 b1 b2, mapRow6 b1 b2, mapRow7 b1 b2,
   mapRow8 b1 b2, mapRow9 b1 b2, mapRowA b1 b2, mapRowB b1 b2, mapRowC b1 b2, mapRowD b1 b2, mapRowE b1 b2, mapRowF b1 b2]

/-- The instruction that an opcode byte and the two bytes after it select (R90, R98, R99). Total: every byte has a place
in the map. -/
def decodeOp (op b1 b2 : Byte) : Instr :=
  ((opcodeMap b1 b2).getD (op.toNat / 16) []).getD (op.toNat % 16) (.undefined op)

/-- Why a byte string holds no whole instruction. -/
inductive DecodeError where
  /-- There is no opcode byte. -/
  | noOpcode
  /-- The bytes end before the instruction's operand bytes do. -/
  | missingOperand
  deriving DecidableEq, Repr

/-- Reads one instruction from the front of a byte string and gives the rest. -/
def decode (bytes : List Byte) : Except DecodeError (Instr × List Byte) :=
  match bytes with
  | [] => .error .noOpcode
  | op :: rest =>
    if opLength op = 1 then .ok (decodeOp op 0 0, rest)
    else match rest with
      | [] => .error .missingOperand
      | b1 :: rest1 =>
        if opLength op = 2 then .ok (decodeOp op b1 0, rest1)
        else match rest1 with
          | [] => .error .missingOperand
          | b2 :: rest2 => .ok (decodeOp op b1 b2, rest2)

/-- Format F3: opcode, low byte, high byte (R91). -/
def encodeWord (op : Byte) (v : Word) : List Byte := [op, loByte v, hiByte v]

/-- The bytes of an instruction, at ascending addresses (R91, R100). -/
def encode : Instr → List Byte
  | .nop => [0x00]
  | .lxiB v => encodeWord 0x01 v
  | .staxB => [0x02]
  | .inxB => [0x03]
  | .inrB => [0x04]
  | .dcrB => [0x05]
  | .mviB v => [0x06, v]
  | .rlc => [0x07]
  | .dadB => [0x09]
  | .ldaxB => [0x0A]
  | .dcxB => [0x0B]
  | .inrC => [0x0C]
  | .dcrC => [0x0D]
  | .mviC v => [0x0E, v]
  | .rrc => [0x0F]
  | .lxiD v => encodeWord 0x11 v
  | .staxD => [0x12]
  | .inxD => [0x13]
  | .inrD => [0x14]
  | .dcrD => [0x15]
  | .mviD v => [0x16, v]
  | .ral => [0x17]
  | .dadD => [0x19]
  | .ldaxD => [0x1A]
  | .dcxD => [0x1B]
  | .inrE => [0x1C]
  | .dcrE => [0x1D]
  | .mviE v => [0x1E, v]
  | .rar => [0x1F]
  | .lxiH v => encodeWord 0x21 v
  | .shld v => encodeWord 0x22 v
  | .inxH => [0x23]
  | .inrH => [0x24]
  | .dcrH => [0x25]
  | .mviH v => [0x26, v]
  | .daa => [0x27]
  | .dadH => [0x29]
  | .lhld v => encodeWord 0x2A v
  | .dcxH => [0x2B]
  | .inrL => [0x2C]
  | .dcrL => [0x2D]
  | .mviL v => [0x2E, v]
  | .cma => [0x2F]
  | .lxiSP v => encodeWord 0x31 v
  | .sta v => encodeWord 0x32 v
  | .inxSP => [0x33]
  | .inrM => [0x34]
  | .dcrM => [0x35]
  | .mviM v => [0x36, v]
  | .stc => [0x37]
  | .dadSP => [0x39]
  | .lda v => encodeWord 0x3A v
  | .dcxSP => [0x3B]
  | .inrA => [0x3C]
  | .dcrA => [0x3D]
  | .mviA v => [0x3E, v]
  | .cmc => [0x3F]
  | .movBB => [0x40]
  | .movBC => [0x41]
  | .movBD => [0x42]
  | .movBE => [0x43]
  | .movBH => [0x44]
  | .movBL => [0x45]
  | .movBM => [0x46]
  | .movBA => [0x47]
  | .movCB => [0x48]
  | .movCC => [0x49]
  | .movCD => [0x4A]
  | .movCE => [0x4B]
  | .movCH => [0x4C]
  | .movCL => [0x4D]
  | .movCM => [0x4E]
  | .movCA => [0x4F]
  | .movDB => [0x50]
  | .movDC => [0x51]
  | .movDD => [0x52]
  | .movDE => [0x53]
  | .movDH => [0x54]
  | .movDL => [0x55]
  | .movDM => [0x56]
  | .movDA => [0x57]
  | .movEB => [0x58]
  | .movEC => [0x59]
  | .movED => [0x5A]
  | .movEE => [0x5B]
  | .movEH => [0x5C]
  | .movEL => [0x5D]
  | .movEM => [0x5E]
  | .movEA => [0x5F]
  | .movHB => [0x60]
  | .movHC => [0x61]
  | .movHD => [0x62]
  | .movHE => [0x63]
  | .movHH => [0x64]
  | .movHL => [0x65]
  | .movHM => [0x66]
  | .movHA => [0x67]
  | .movLB => [0x68]
  | .movLC => [0x69]
  | .movLD => [0x6A]
  | .movLE => [0x6B]
  | .movLH => [0x6C]
  | .movLL => [0x6D]
  | .movLM => [0x6E]
  | .movLA => [0x6F]
  | .movMB => [0x70]
  | .movMC => [0x71]
  | .movMD => [0x72]
  | .movME => [0x73]
  | .movMH => [0x74]
  | .movML => [0x75]
  | .hlt => [0x76]
  | .movMA => [0x77]
  | .movAB => [0x78]
  | .movAC => [0x79]
  | .movAD => [0x7A]
  | .movAE => [0x7B]
  | .movAH => [0x7C]
  | .movAL => [0x7D]
  | .movAM => [0x7E]
  | .movAA => [0x7F]
  | .addB => [0x80]
  | .addC => [0x81]
  | .addD => [0x82]
  | .addE => [0x83]
  | .addH => [0x84]
  | .addL => [0x85]
  | .addM => [0x86]
  | .addA => [0x87]
  | .adcB => [0x88]
  | .adcC => [0x89]
  | .adcD => [0x8A]
  | .adcE => [0x8B]
  | .adcH => [0x8C]
  | .adcL => [0x8D]
  | .adcM => [0x8E]
  | .adcA => [0x8F]
  | .subB => [0x90]
  | .subC => [0x91]
  | .subD => [0x92]
  | .subE => [0x93]
  | .subH => [0x94]
  | .subL => [0x95]
  | .subM => [0x96]
  | .subA => [0x97]
  | .sbbB => [0x98]
  | .sbbC => [0x99]
  | .sbbD => [0x9A]
  | .sbbE => [0x9B]
  | .sbbH => [0x9C]
  | .sbbL => [0x9D]
  | .sbbM => [0x9E]
  | .sbbA => [0x9F]
  | .anaB => [0xA0]
  | .anaC => [0xA1]
  | .anaD => [0xA2]
  | .anaE => [0xA3]
  | .anaH => [0xA4]
  | .anaL => [0xA5]
  | .anaM => [0xA6]
  | .anaA => [0xA7]
  | .xraB => [0xA8]
  | .xraC => [0xA9]
  | .xraD => [0xAA]
  | .xraE => [0xAB]
  | .xraH => [0xAC]
  | .xraL => [0xAD]
  | .xraM => [0xAE]
  | .xraA => [0xAF]
  | .oraB => [0xB0]
  | .oraC => [0xB1]
  | .oraD => [0xB2]
  | .oraE => [0xB3]
  | .oraH => [0xB4]
  | .oraL => [0xB5]
  | .oraM => [0xB6]
  | .oraA => [0xB7]
  | .cmpB => [0xB8]
  | .cmpC => [0xB9]
  | .cmpD => [0xBA]
  | .cmpE => [0xBB]
  | .cmpH => [0xBC]
  | .cmpL => [0xBD]
  | .cmpM => [0xBE]
  | .cmpA => [0xBF]
  | .rnz => [0xC0]
  | .popB => [0xC1]
  | .jnz v => encodeWord 0xC2 v
  | .jmp v => encodeWord 0xC3 v
  | .cnz v => encodeWord 0xC4 v
  | .pushB => [0xC5]
  | .adi v => [0xC6, v]
  | .rst0 => [0xC7]
  | .rz => [0xC8]
  | .ret => [0xC9]
  | .jz v => encodeWord 0xCA v
  | .cz v => encodeWord 0xCC v
  | .call v => encodeWord 0xCD v
  | .aci v => [0xCE, v]
  | .rst1 => [0xCF]
  | .rnc => [0xD0]
  | .popD => [0xD1]
  | .jnc v => encodeWord 0xD2 v
  | .outPort v => [0xD3, v]
  | .cnc v => encodeWord 0xD4 v
  | .pushD => [0xD5]
  | .sui v => [0xD6, v]
  | .rst2 => [0xD7]
  | .rc => [0xD8]
  | .jc v => encodeWord 0xDA v
  | .inPort v => [0xDB, v]
  | .cc v => encodeWord 0xDC v
  | .sbi v => [0xDE, v]
  | .rst3 => [0xDF]
  | .rpo => [0xE0]
  | .popH => [0xE1]
  | .jpo v => encodeWord 0xE2 v
  | .xthl => [0xE3]
  | .cpo v => encodeWord 0xE4 v
  | .pushH => [0xE5]
  | .ani v => [0xE6, v]
  | .rst4 => [0xE7]
  | .rpe => [0xE8]
  | .pchl => [0xE9]
  | .jpe v => encodeWord 0xEA v
  | .xchg => [0xEB]
  | .cpe v => encodeWord 0xEC v
  | .xri v => [0xEE, v]
  | .rst5 => [0xEF]
  | .rp => [0xF0]
  | .popPSW => [0xF1]
  | .jp v => encodeWord 0xF2 v
  | .di => [0xF3]
  | .cp v => encodeWord 0xF4 v
  | .pushPSW => [0xF5]
  | .ori v => [0xF6, v]
  | .rst6 => [0xF7]
  | .rm => [0xF8]
  | .sphl => [0xF9]
  | .jm v => encodeWord 0xFA v
  | .ei => [0xFB]
  | .cm v => encodeWord 0xFC v
  | .cpi v => [0xFE, v]
  | .rst7 => [0xFF]
  | .undefined op => [op]

/-- The three bytes at which the first three bytes of a table word stand, the bits above `nbits` zero. -/
def tableBytes (nbits w : Nat) : List Byte :=
  let v := w % 2 ^ nbits
  [BitVec.ofNat 8 v, BitVec.ofNat 8 (v / 256), BitVec.ofNat 8 (v / 65536)]

/-- The instruction the decoder reads from the bits `w`, bit 0 being the least significant bit of the first byte. -/
def decodeTableWord (nbits w : Nat) : Option Instr :=
  match decode (tableBytes nbits w) with
  | .ok (i, _) => some i
  | .error _ => none

end Sys2Proof
end

