-- ==== Sys2Proof/Machine/Ops.lean ====
section
/-! DEFINITION. Ops.lean: the named operations on memory, registers, pairs, the program counter, the stack and the ports,
and taking and returning from an interrupt. Every access of an instruction goes through one of these. -/

namespace Sys2Proof.Machine

/-! ### Memory (20_memory.md) -/

/-- The byte at an address; `0x00` where the list names none (10_state.md R36). -/
def Memory.read : Memory → Nat → Byte
  | [], _ => 0
  | cell :: m, addr => if cell.1 = addr then cell.2 else Memory.read m addr

/-- The list without an address. -/
def Memory.erase (m : Memory) (addr : Nat) : Memory := m.filter fun cell => cell.1 ≠ addr

/-- The list with a pair put before the first higher address. -/
def Memory.insert : Memory → Nat → Byte → Memory
  | [], addr, v => [(addr, v)]
  | cell :: m, addr, v =>
    if addr < cell.1 then (addr, v) :: cell :: m else cell :: Memory.insert m addr v

/-- Memory with one byte written. Writing the byte an unlisted address reads as removes the entry. -/
def Memory.write (m : Memory) (addr : Nat) (v : Byte) : Memory :=
  if v = 0 then m.erase addr else (m.erase addr).insert addr v

/-- Addresses strictly rising. -/
def Memory.rising : Memory → Bool
  | [] => true
  | [_] => true
  | x :: y :: m => decide (x.1 < y.1) && Memory.rising (y :: m)

/-- The canonical form: addresses strictly rising, inside the address space, no byte `0x00` listed. -/
def Memory.wf (m : Memory) : Bool :=
  Memory.rising m && m.all fun cell => decide (cell.1 < 65536) && decide (cell.2 ≠ 0)

/-- `MemRead(addr, 1)` (R61). -/
def State.readByte (s : State) (addr : Word) : Byte := s.mem.read addr.toNat

/-- `MemWrite(addr, 1, v)` (R62). -/
def State.writeByte (s : State) (addr : Word) (v : Byte) : State :=
  { s with mem := s.mem.write addr.toNat v }

/-- `MemRead(addr, 2)`: the byte at the lower address is the low byte (R64). -/
def State.readWord (s : State) (addr : Word) : Word :=
  joinBytes (s.readByte (addr + 1)) (s.readByte addr)

/-- `MemWrite(addr, 2, v)` (R65). -/
def State.writeWord (s : State) (addr v : Word) : State :=
  (s.writeByte addr (loByte v)).writeByte (addr + 1) (hiByte v)

/-! ### Registers and pairs (10_state.md R20 to R23, 40_dispatch_flags_pairs.md R146 to R148) -/

/-- `r[c]` (30_encoding.md R95). -/
def State.reg (s : State) : Reg → Byte
  | .b => s.b
  | .c => s.c
  | .d => s.d
  | .e => s.e
  | .h => s.h
  | .l => s.l
  | .a => s.a

/-- `r[c] <- v`. -/
def State.setReg (s : State) (r : Reg) (v : Byte) : State :=
  match r with
  | .b => { s with b := v }
  | .c => { s with c := v }
  | .d => { s with d := v }
  | .e => { s with e := v }
  | .h => { s with h := v }
  | .l => { s with l := v }
  | .a => { s with a := v }

/-- `F` replaced. -/
def State.setFlags (s : State) (f : Flags) : State := { s with f := f }

/-- `BC` (R22). -/
def State.bc (s : State) : Word := joinBytes s.b s.c

/-- `DE` (R22). -/
def State.de (s : State) : Word := joinBytes s.d s.e

/-- `HL` (R22). -/
def State.hl (s : State) : Word := joinBytes s.h s.l

/-- `BC <- v` (R147). -/
def State.setBC (s : State) (v : Word) : State := { s with b := hiByte v, c := loByte v }

/-- `DE <- v` (R147). -/
def State.setDE (s : State) (v : Word) : State := { s with d := hiByte v, e := loByte v }

/-- `HL <- v` (R147). -/
def State.setHL (s : State) (v : Word) : State := { s with h := hiByte v, l := loByte v }

/-- `SP <- v`. -/
def State.setSP (s : State) (v : Word) : State := { s with sp := v }

/-- `rp[p]` (R146). -/
def State.pair (s : State) : Pair → Word
  | .bc => s.bc
  | .de => s.de
  | .hl => s.hl
  | .sp => s.sp

/-- `rp[p] <- v` (R147). -/
def State.setPair (s : State) (p : Pair) (v : Word) : State :=
  match p with
  | .bc => s.setBC v
  | .de => s.setDE v
  | .hl => s.setHL v
  | .sp => s.setSP v

/-- The eight bits of `F` as a byte (10_state.md R28). -/
def Flags.toByte (f : Flags) : Byte :=
  BitVec.ofBool f.s ++ BitVec.ofBool f.z ++ BitVec.ofBool f.bit5 ++ BitVec.ofBool f.ac ++
    BitVec.ofBool f.bit3 ++ BitVec.ofBool f.p ++ BitVec.ofBool f.bit1 ++ BitVec.ofBool f.cy

/-- `F` from a byte, unused bits included (10_state.md R29). -/
def Flags.ofByte (v : Byte) : Flags where
  s := v.getLsbD 7
  z := v.getLsbD 6
  bit5 := v.getLsbD 5
  ac := v.getLsbD 4
  bit3 := v.getLsbD 3
  p := v.getLsbD 2
  bit1 := v.getLsbD 1
  cy := v.getLsbD 0

/-- `PSW` = `{A, F}` (R23). -/
def State.psw (s : State) : Word := joinBytes s.a s.f.toByte

/-- `PSW <- v` (R148). -/
def State.setPSW (s : State) (v : Word) : State :=
  { s with a := hiByte v, f := Flags.ofByte (loByte v) }

/-- The pair a PUSH stores (30_encoding.md R97). -/
def State.stackPair (s : State) : StackPair → Word
  | .bc => s.bc
  | .de => s.de
  | .hl => s.hl
  | .psw => s.psw

/-- The pair a POP loads (R97). -/
def State.setStackPair (s : State) (p : StackPair) (v : Word) : State :=
  match p with
  | .bc => s.setBC v
  | .de => s.setDE v
  | .hl => s.setHL v
  | .psw => s.setPSW v

/-! ### The program counter (40_dispatch_flags_pairs.md R132) -/

/-- `PC <- target`. -/
def State.jump (s : State) (target : Word) : State := { s with pc := target }

/-- `PC <- (PC + length) mod 65536` (10_state.md R25). -/
def State.advance (s : State) (length : Nat) : State := s.jump (s.pc + BitVec.ofNat 16 length)

/-! ### The control flags (10_state.md R33, R34) -/

/-- `IE <- b`. -/
def State.setIE (s : State) (b : Bool) : State := { s with ie := b }

/-- `HALT <- b`. -/
def State.setHalt (s : State) (b : Bool) : State := { s with halt := b }

/-! ### The stack (40_dispatch_flags_pairs.md R150, R151) -/

/-- `Push16(v)` (R150). -/
def State.push16 (s : State) (v : Word) : State :=
  ((s.writeByte (s.sp - 1) (hiByte v)).writeByte (s.sp - 2) (loByte v)).setSP (s.sp - 2)

/-- The value `Pop16()` returns (R151). -/
def State.top16 (s : State) : Word := s.readWord s.sp

/-- The state `Pop16()` leaves: memory is not changed (R151). -/
def State.drop16 (s : State) : State := s.setSP (s.sp + 2)

/-! ### Taking an interrupt and returning from it (60_exceptions.md R410, R414) -/

/-- The one control transfer through a vector: the return address is pushed and `PC` becomes `8 * n`. Delivery uses it
with the `PC` of the next instruction (R410), RST with the address after the RST byte (45_branch.md R307). -/
def State.enterVector (s : State) (n : Nat) (returnAddr : Word) : State :=
  (s.push16 returnAddr).jump (BitVec.ofNat 16 (8 * n))

/-- `PC <- Pop16()`: the return from a call, from RST and from an interrupt. It restores `PC` only (R414). -/
def State.returnFrom (s : State) : State := s.drop16.jump s.top16

/-- `deliver(vector)` (R410): the range test comes before the Armed test (R402). -/
def deliver (vector : Nat) (s : State) : DeliverResult :=
  if vector > 7 then .invalidVector
  else if s.ie = false then .ok s
  else .ok ((s.enterVector vector s.pc).setIE false)

/-! ### The port bridge (60_exceptions.md R430 to R438) -/

/-- The window that IN 3 returns: `({SR_HI, SR_LO} >> (8 - SR_OFF)) & 0xFF` (R436). -/
def shiftWindow (hi lo : Byte) (off : BitVec 3) : Byte :=
  loByte (joinBytes hi lo >>> (8 - off.toNat))

/-- The value of `PortIn(p)` (R431). A port with no function gives a free value (R438, log 5). -/
def State.portIn (s : State) (port : Byte) : Byte :=
  if port = 1 then s.p1
  else if port = 2 then s.p2
  else if port = 3 then shiftWindow s.srHi s.srLo s.srOff
  else Config.portInUnmapped s.draws

/-- The state after `PortIn(p)`: no state of the machine changes (R431); a free value that was drawn is counted. -/
def State.afterPortIn (s : State) (port : Byte) : State :=
  if port = 1 then s else if port = 2 then s else if port = 3 then s
  else { s with draws := s.draws + 1 }

/-- The bits that were 0 in `old` and are 1 in `new` (R437). -/
def risingBits (old new : Byte) : Byte := new &&& ~~~old

/-- The events of one OUT to a sound port, added to those not yet taken; none is added where no bit rises (R437). -/
def emitSound (sound : List SoundEmission) (port : SoundPort) (bits : Byte) : List SoundEmission :=
  if bits = 0 then sound else sound ++ [⟨port, bits⟩]

/-- `PortOut(p, v)` (R432): port 2 sets the offset (R434), port 4 shifts a byte in (R435), ports 3 and 5 are the sound
ports (R437), any other port changes nothing (R438). -/
def State.portOut (s : State) (port v : Byte) : State :=
  if port = 2 then { s with srOff := v.extractLsb' 0 3 }
  else if port = 4 then { s with srHi := v, srLo := s.srHi }
  else if port = 3 then
    { s with snd3 := v, sound := emitSound s.sound .port3 (risingBits s.snd3 v) }
  else if port = 5 then
    { s with snd5 := v, sound := emitSound s.sound .port5 (risingBits s.snd5 v) }
  else s

/-! ### The instructions the source does not name (30_encoding.md R103) -/

/-- The meaning of an instruction of R103 under `P_UNNAMED_OPS`: `k` if these execute, else `UnimplementedOpcode(op)`
(48_control.md R375). -/
def unnamed (reading : UnnamedOps) (op : Byte) (k : Result) : Result :=
  match reading with
  | .execute => k
  | .fault => .fault (.unimplementedOpcode op)

end Sys2Proof.Machine
end

