-- ==== Sys2Proof/Machine/Operands.lean ====
section
/-! DEFINITION. Operands.lean: the operand forms (30_encoding.md R95, 42_arithmetic.md R202) and the condition test
(40_dispatch_flags_pairs.md R153). -/

namespace Sys2Proof.Machine

/-- What a register code reads: the register, or the memory byte at `HL`. -/
def State.loc (s : State) : Loc → Byte
  | .reg r => s.reg r
  | .m => s.readByte s.hl

/-- What a register code writes. -/
def State.setLoc (s : State) (x : Loc) (v : Byte) : State :=
  match x with
  | .reg r => s.setReg r v
  | .m => s.writeByte s.hl v

/-- The second operand `v` of a two-operand instruction (R202). -/
def State.src (s : State) : Src → Byte
  | .reg r => s.reg r
  | .m => s.readByte s.hl
  | .imm v => v

/-- The length of a two-operand instruction by the form of its operand (R202). -/
def Src.length : Src → Nat
  | .reg _ => 1
  | .m => 1
  | .imm _ => 2

/-- `Cond(ccc)` (R153). -/
def Cond.holds (cond : Cond) (f : Flags) : Bool :=
  match cond with
  | .nz => !f.z
  | .z => f.z
  | .nc => !f.cy
  | .c => f.cy
  | .po => !f.p
  | .pe => f.p
  | .p => !f.s
  | .m => f.s

/-- The condition of a 3-bit code (30_encoding.md R101). -/
def Cond.ofCode (ccc : BitVec 3) : Cond :=
  match ccc.toNat with
  | 0 => .nz
  | 1 => .z
  | 2 => .nc
  | 3 => .c
  | 4 => .po
  | 5 => .pe
  | 6 => .p
  | _ => .m

end Sys2Proof.Machine
end

