-- ==== Sys2Proof/Machine/Arithmetic.lean ====
section
/-! DEFINITION. Arithmetic.lean: the arithmetic instructions (42_arithmetic.md).
One definition per instruction, over shared operations. -/

namespace Sys2Proof.Machine

/-- `AddCore(v, cin)` and the length of the operand form (R200, R202). -/
def addCore (x : Src) (cin : Bool) (s : State) : Result :=
  .next (((s.setFlags (s.f.afterAdd s.a (s.src x) cin)).setReg .a
    (BitVec.ofNat 8 (addSum s.a (s.src x) cin))).advance x.length)

/-- `SubCore(v, bin, true)` and the length of the operand form (R201, R202). -/
def subCore (x : Src) (bin : Bool) (s : State) : Result :=
  .next (((s.setFlags (s.f.afterSub s.a (s.src x) bin)).setReg .a
    (subResult s.a (s.src x) bin)).advance x.length)

/-- INR (R217, R218). -/
def increment (x : Loc) (s : State) : Result :=
  .next (((s.setLoc x (s.loc x + 1)).setFlags (s.f.afterInc (s.loc x))).advance 1)

/-- DCR (R219, R220). -/
def decrement (x : Loc) (s : State) : Result :=
  .next (((s.setLoc x (s.loc x - 1)).setFlags (s.f.afterDec (s.loc x))).advance 1)

/-- INX (R221). -/
def incrementPair (p : Pair) (s : State) : Result :=
  .next ((s.setPair p (s.pair p + 1)).advance 1)

/-- DCX (R222). -/
def decrementPair (p : Pair) (s : State) : Result :=
  .next ((s.setPair p (s.pair p - 1)).advance 1)

/-- DAD: the carry is bit 16 of the untruncated sum (R223). -/
def addPair (p : Pair) (s : State) : Result :=
  .next (((s.setFlags (s.f.setCY (decide (dadSum s.hl (s.pair p) > 65535)))).setHL
    (BitVec.ofNat 16 (dadSum s.hl (s.pair p)))).advance 1)

/-- DAA under a value of `P_DAA_HI` (R224). -/
def decimalAdjust (reading : DaaHi) (s : State) : Result :=
  .next (((s.setFlags (s.f.afterDaaWith reading s.a)).setReg .a
    (daaResultWith reading s.a s.f.ac s.f.cy)).advance 1)

/-- `ADD B`, `0x80` (R205). -/
def execAddB (s : State) : Result := addCore (.reg .b) false s

/-- `ADD C`, `0x81` (R205). -/
def execAddC (s : State) : Result := addCore (.reg .c) false s

/-- `ADD D`, `0x82` (R205). -/
def execAddD (s : State) : Result := addCore (.reg .d) false s

/-- `ADD E`, `0x83` (R205). -/
def execAddE (s : State) : Result := addCore (.reg .e) false s

/-- `ADD H`, `0x84` (R205). -/
def execAddH (s : State) : Result := addCore (.reg .h) false s

/-- `ADD L`, `0x85` (R205). -/
def execAddL (s : State) : Result := addCore (.reg .l) false s

/-- `ADD A`, `0x87` (R205). -/
def execAddA (s : State) : Result := addCore (.reg .a) false s

/-- `ADD M`, `0x86` (R206). -/
def execAddM (s : State) : Result := addCore .m false s

/-- `ADI`, `0xC6` (R207). -/
def execAdi (data : Byte) (s : State) : Result := addCore (.imm data) false s

/-- `ADC B`, `0x88` (R208). -/
def execAdcB (s : State) : Result := addCore (.reg .b) s.f.cy s

/-- `ADC C`, `0x89` (R208). -/
def execAdcC (s : State) : Result := addCore (.reg .c) s.f.cy s

/-- `ADC D`, `0x8A` (R208). -/
def execAdcD (s : State) : Result := addCore (.reg .d) s.f.cy s

/-- `ADC E`, `0x8B` (R208). -/
def execAdcE (s : State) : Result := addCore (.reg .e) s.f.cy s

/-- `ADC H`, `0x8C` (R208). -/
def execAdcH (s : State) : Result := addCore (.reg .h) s.f.cy s

/-- `ADC L`, `0x8D` (R208). -/
def execAdcL (s : State) : Result := addCore (.reg .l) s.f.cy s

/-- `ADC A`, `0x8F` (R208). -/
def execAdcA (s : State) : Result := addCore (.reg .a) s.f.cy s

/-- `ADC M`, `0x8E` (R209). -/
def execAdcM (s : State) : Result := addCore .m s.f.cy s

/-- `ACI`, `0xCE` (R210). -/
def execAci (data : Byte) (s : State) : Result := addCore (.imm data) s.f.cy s

/-- `SUB B`, `0x90` (R211). -/
def execSubB (s : State) : Result := subCore (.reg .b) false s

/-- `SUB C`, `0x91` (R211). -/
def execSubC (s : State) : Result := subCore (.reg .c) false s

/-- `SUB D`, `0x92` (R211). -/
def execSubD (s : State) : Result := subCore (.reg .d) false s

/-- `SUB E`, `0x93` (R211). -/
def execSubE (s : State) : Result := subCore (.reg .e) false s

/-- `SUB H`, `0x94` (R211). -/
def execSubH (s : State) : Result := subCore (.reg .h) false s

/-- `SUB L`, `0x95` (R211). -/
def execSubL (s : State) : Result := subCore (.reg .l) false s

/-- `SUB A`, `0x97` (R211). -/
def execSubA (s : State) : Result := subCore (.reg .a) false s

/-- `SUB M`, `0x96` (R212). -/
def execSubM (s : State) : Result := subCore .m false s

/-- `SUI`, `0xD6` (R213). -/
def execSui (data : Byte) (s : State) : Result := subCore (.imm data) false s

/-- `SBB B`, `0x98` (R214). -/
def execSbbB (s : State) : Result := subCore (.reg .b) s.f.cy s

/-- `SBB C`, `0x99` (R214). -/
def execSbbC (s : State) : Result := subCore (.reg .c) s.f.cy s

/-- `SBB D`, `0x9A` (R214). -/
def execSbbD (s : State) : Result := subCore (.reg .d) s.f.cy s

/-- `SBB E`, `0x9B` (R214). -/
def execSbbE (s : State) : Result := subCore (.reg .e) s.f.cy s

/-- `SBB H`, `0x9C` (R214). -/
def execSbbH (s : State) : Result := subCore (.reg .h) s.f.cy s

/-- `SBB L`, `0x9D` (R214). -/
def execSbbL (s : State) : Result := subCore (.reg .l) s.f.cy s

/-- `SBB A`, `0x9F` (R214). -/
def execSbbA (s : State) : Result := subCore (.reg .a) s.f.cy s

/-- `SBB M`, `0x9E` (R215). -/
def execSbbM (s : State) : Result := subCore .m s.f.cy s

/-- `SBI`, `0xDE` (R216). -/
def execSbi (data : Byte) (s : State) : Result := subCore (.imm data) s.f.cy s

/-- `INR B`, `0x04` (R217). -/
def execInrB (s : State) : Result := increment (.reg .b) s

/-- `INR C`, `0x0C` (R217). -/
def execInrC (s : State) : Result := increment (.reg .c) s

/-- `INR D`, `0x14` (R217). -/
def execInrD (s : State) : Result := increment (.reg .d) s

/-- `INR E`, `0x1C` (R217). -/
def execInrE (s : State) : Result := increment (.reg .e) s

/-- `INR H`, `0x24` (R217). -/
def execInrH (s : State) : Result := increment (.reg .h) s

/-- `INR L`, `0x2C` (R217). -/
def execInrL (s : State) : Result := increment (.reg .l) s

/-- `INR A`, `0x3C` (R217). -/
def execInrA (s : State) : Result := increment (.reg .a) s

/-- `INR M`, `0x34` (R218). -/
def execInrM (s : State) : Result := increment .m s

/-- `DCR B`, `0x05` (R219). -/
def execDcrB (s : State) : Result := decrement (.reg .b) s

/-- `DCR C`, `0x0D` (R219). -/
def execDcrC (s : State) : Result := decrement (.reg .c) s

/-- `DCR D`, `0x15` (R219). -/
def execDcrD (s : State) : Result := decrement (.reg .d) s

/-- `DCR E`, `0x1D` (R219). -/
def execDcrE (s : State) : Result := decrement (.reg .e) s

/-- `DCR H`, `0x25` (R219). -/
def execDcrH (s : State) : Result := decrement (.reg .h) s

/-- `DCR L`, `0x2D` (R219). -/
def execDcrL (s : State) : Result := decrement (.reg .l) s

/-- `DCR A`, `0x3D` (R219). -/
def execDcrA (s : State) : Result := decrement (.reg .a) s

/-- `DCR M`, `0x35` (R220). -/
def execDcrM (s : State) : Result := decrement .m s

/-- `INX B`, `0x03` (R221). -/
def execInxB (s : State) : Result := incrementPair .bc s

/-- `INX D`, `0x13` (R221). -/
def execInxD (s : State) : Result := incrementPair .de s

/-- `INX H`, `0x23` (R221). -/
def execInxH (s : State) : Result := incrementPair .hl s

/-- `INX SP`, `0x33` (R221). -/
def execInxSP (s : State) : Result := incrementPair .sp s

/-- `DCX B`, `0x0B` (R222). -/
def execDcxB (s : State) : Result := decrementPair .bc s

/-- `DCX D`, `0x1B` (R222). -/
def execDcxD (s : State) : Result := decrementPair .de s

/-- `DCX H`, `0x2B` (R222). -/
def execDcxH (s : State) : Result := decrementPair .hl s

/-- `DCX SP`, `0x3B` (R222). -/
def execDcxSP (s : State) : Result := decrementPair .sp s

/-- `DAD B`, `0x09` (R223). -/
def execDadB (s : State) : Result := addPair .bc s

/-- `DAD D`, `0x19` (R223). -/
def execDadD (s : State) : Result := addPair .de s

/-- `DAD H`, `0x29` (R223). -/
def execDadH (s : State) : Result := addPair .hl s

/-- `DAD SP`, `0x39` (R223). -/
def execDadSP (s : State) : Result := addPair .sp s

/-- `DAA`, `0x27` (R224). -/
def execDaa (s : State) : Result := decimalAdjust Config.daaHi s

end Sys2Proof.Machine
end

