-- ==== Sys2Proof/Machine/Branch.lean ====
section
/-! DEFINITION. Branch.lean: the branch instructions (45_branch.md): no flag is written.
One definition per instruction, over shared operations. -/

namespace Sys2Proof.Machine

/-- JMP (R300). -/
def jumpTo (addr : Word) (s : State) : Result := .next (s.jump addr)

/-- Jcond (R301). -/
def jumpIf (cond : Cond) (addr : Word) (s : State) : Result :=
  if cond.holds s.f then .next (s.jump addr) else .next (s.advance 3)

/-- CALL: the operand was read before the push (R302, 20_memory.md R68). -/
def callTo (addr : Word) (s : State) : Result := .next ((s.push16 (s.pc + 3)).jump addr)

/-- Ccond (R303). -/
def callIf (cond : Cond) (addr : Word) (s : State) : Result :=
  if cond.holds s.f then .next ((s.push16 (s.pc + 3)).jump addr) else .next (s.advance 3)

/-- RET (R304). -/
def returnAlways (s : State) : Result := .next s.returnFrom

/-- Rcond (R305). -/
def returnIf (cond : Cond) (s : State) : Result :=
  if cond.holds s.f then .next s.returnFrom else .next (s.advance 1)

/-- RST n: a one-byte call to `8 * n` (R307), one of the instructions of 30_encoding.md R103. -/
def restart (op : Byte) (n : Nat) (s : State) : Result :=
  unnamed Config.unnamedOps op (.next (s.enterVector n (s.pc + 1)))

/-- `JMP`, `0xC3` (R300). -/
def execJmp (addr : Word) (s : State) : Result := jumpTo addr s

/-- `JNZ`, `0xC2` (R301). -/
def execJnz (addr : Word) (s : State) : Result := jumpIf .nz addr s

/-- `JZ`, `0xCA` (R301). -/
def execJz (addr : Word) (s : State) : Result := jumpIf .z addr s

/-- `JNC`, `0xD2` (R301). -/
def execJnc (addr : Word) (s : State) : Result := jumpIf .nc addr s

/-- `JC`, `0xDA` (R301). -/
def execJc (addr : Word) (s : State) : Result := jumpIf .c addr s

/-- `JPO`, `0xE2` (R301). -/
def execJpo (addr : Word) (s : State) : Result := jumpIf .po addr s

/-- `JPE`, `0xEA` (R301). -/
def execJpe (addr : Word) (s : State) : Result := jumpIf .pe addr s

/-- `JP`, `0xF2` (R301). -/
def execJp (addr : Word) (s : State) : Result := jumpIf .p addr s

/-- `JM`, `0xFA` (R301). -/
def execJm (addr : Word) (s : State) : Result := jumpIf .m addr s

/-- `CALL`, `0xCD` (R302). -/
def execCall (addr : Word) (s : State) : Result := callTo addr s

/-- `CNZ`, `0xC4` (R303). -/
def execCnz (addr : Word) (s : State) : Result := callIf .nz addr s

/-- `CZ`, `0xCC` (R303). -/
def execCz (addr : Word) (s : State) : Result := callIf .z addr s

/-- `CNC`, `0xD4` (R303). -/
def execCnc (addr : Word) (s : State) : Result := callIf .nc addr s

/-- `CC`, `0xDC` (R303). -/
def execCc (addr : Word) (s : State) : Result := callIf .c addr s

/-- `CPO`, `0xE4` (R303). -/
def execCpo (addr : Word) (s : State) : Result := callIf .po addr s

/-- `CPE`, `0xEC` (R303). -/
def execCpe (addr : Word) (s : State) : Result := callIf .pe addr s

/-- `CP`, `0xF4` (R303). -/
def execCp (addr : Word) (s : State) : Result := callIf .p addr s

/-- `CM`, `0xFC` (R303). -/
def execCm (addr : Word) (s : State) : Result := callIf .m addr s

/-- `RET`, `0xC9` (R304). -/
def execRet (s : State) : Result := returnAlways s

/-- `RNZ`, `0xC0` (R305). -/
def execRnz (s : State) : Result := returnIf .nz s

/-- `RZ`, `0xC8` (R305). -/
def execRz (s : State) : Result := returnIf .z s

/-- `RNC`, `0xD0` (R305). -/
def execRnc (s : State) : Result := returnIf .nc s

/-- `RC`, `0xD8` (R305). -/
def execRc (s : State) : Result := returnIf .c s

/-- `RPO`, `0xE0` (R305). -/
def execRpo (s : State) : Result := returnIf .po s

/-- `RPE`, `0xE8` (R305). -/
def execRpe (s : State) : Result := returnIf .pe s

/-- `RP`, `0xF0` (R305). -/
def execRp (s : State) : Result := returnIf .p s

/-- `RM`, `0xF8` (R305). -/
def execRm (s : State) : Result := returnIf .m s

/-- `PCHL`, `0xE9` (R306). -/
def execPchl (s : State) : Result := .next (s.jump s.hl)

/-- `RST 0`, `0xC7` (R307). -/
def execRst0 (s : State) : Result := restart 0xC7 0 s

/-- `RST 1`, `0xCF` (R307). -/
def execRst1 (s : State) : Result := restart 0xCF 1 s

/-- `RST 2`, `0xD7` (R307). -/
def execRst2 (s : State) : Result := restart 0xD7 2 s

/-- `RST 3`, `0xDF` (R307). -/
def execRst3 (s : State) : Result := restart 0xDF 3 s

/-- `RST 4`, `0xE7` (R307). -/
def execRst4 (s : State) : Result := restart 0xE7 4 s

/-- `RST 5`, `0xEF` (R307). -/
def execRst5 (s : State) : Result := restart 0xEF 5 s

/-- `RST 6`, `0xF7` (R307). -/
def execRst6 (s : State) : Result := restart 0xF7 6 s

/-- `RST 7`, `0xFF` (R307). -/
def execRst7 (s : State) : Result := restart 0xFF 7 s

end Sys2Proof.Machine
end

