-- ==== Sys2Proof/Machine/Control.lean ====
section
/-! DEFINITION. Control.lean: the control instructions and the undefined opcodes (48_control.md).
One definition per instruction, over shared operations. -/

namespace Sys2Proof.Machine

/-- `NOP`, `0x00` (R370). -/
def execNop (s : State) : Result := .next (s.advance 1)

/-- `EI`, `0xFB` (R371). -/
def execEi (s : State) : Result := .next ((s.advance 1).setIE true)

/-- `DI`, `0xF3` (R372). -/
def execDi (s : State) : Result := .next ((s.advance 1).setIE false)

/-- `HLT`, `0x76` (R373). -/
def execHlt (s : State) : Result := .next ((s.advance 1).setHalt true)

/-- An undefined opcode byte: `UnimplementedOpcode`, with no change of state (R375, 60_exceptions.md R400). -/
def execUndefined (op : Byte) (_s : State) : Result :=
  .fault (.unimplementedOpcode op)

end Sys2Proof.Machine
end

