-- ==== Sys2Proof/Machine/DataTransfer.lean ====
section
/-! DEFINITION. DataTransfer.lean: the data transfer instructions (41_data_transfer.md): copies that write no flag.
One definition per instruction, over shared operations. -/

namespace Sys2Proof.Machine

/-- MOV and MVI: a value to a register or to `M` (R160 to R164). -/
def moveTo (dst : Loc) (v : Byte) (length : Nat) (s : State) : Result :=
  .next ((s.setLoc dst v).advance length)

/-- LXI (R165). -/
def loadPairImmediate (p : Pair) (v : Word) (s : State) : Result :=
  .next ((s.setPair p v).advance 3)

/-- LDA and LDAX: the byte at an address to `A` (R166, R168). -/
def loadA (addr : Word) (length : Nat) (s : State) : Result :=
  .next ((s.setReg .a (s.readByte addr)).advance length)

/-- STA and STAX: `A` to the byte at an address (R167, R169). -/
def storeA (addr : Word) (length : Nat) (s : State) : Result :=
  .next ((s.writeByte addr s.a).advance length)

/-- `MOV B,B`, `0x40` (R160). -/
def execMovBB (s : State) : Result := moveTo (.reg .b) (s.reg .b) 1 s

/-- `MOV B,C`, `0x41` (R160). -/
def execMovBC (s : State) : Result := moveTo (.reg .b) (s.reg .c) 1 s

/-- `MOV B,D`, `0x42` (R160). -/
def execMovBD (s : State) : Result := moveTo (.reg .b) (s.reg .d) 1 s

/-- `MOV B,E`, `0x43` (R160). -/
def execMovBE (s : State) : Result := moveTo (.reg .b) (s.reg .e) 1 s

/-- `MOV B,H`, `0x44` (R160). -/
def execMovBH (s : State) : Result := moveTo (.reg .b) (s.reg .h) 1 s

/-- `MOV B,L`, `0x45` (R160). -/
def execMovBL (s : State) : Result := moveTo (.reg .b) (s.reg .l) 1 s

/-- `MOV B,A`, `0x47` (R160). -/
def execMovBA (s : State) : Result := moveTo (.reg .b) (s.reg .a) 1 s

/-- `MOV C,B`, `0x48` (R160). -/
def execMovCB (s : State) : Result := moveTo (.reg .c) (s.reg .b) 1 s

/-- `MOV C,C`, `0x49` (R160). -/
def execMovCC (s : State) : Result := moveTo (.reg .c) (s.reg .c) 1 s

/-- `MOV C,D`, `0x4A` (R160). -/
def execMovCD (s : State) : Result := moveTo (.reg .c) (s.reg .d) 1 s

/-- `MOV C,E`, `0x4B` (R160). -/
def execMovCE (s : State) : Result := moveTo (.reg .c) (s.reg .e) 1 s

/-- `MOV C,H`, `0x4C` (R160). -/
def execMovCH (s : State) : Result := moveTo (.reg .c) (s.reg .h) 1 s

/-- `MOV C,L`, `0x4D` (R160). -/
def execMovCL (s : State) : Result := moveTo (.reg .c) (s.reg .l) 1 s

/-- `MOV C,A`, `0x4F` (R160). -/
def execMovCA (s : State) : Result := moveTo (.reg .c) (s.reg .a) 1 s

/-- `MOV D,B`, `0x50` (R160). -/
def execMovDB (s : State) : Result := moveTo (.reg .d) (s.reg .b) 1 s

/-- `MOV D,C`, `0x51` (R160). -/
def execMovDC (s : State) : Result := moveTo (.reg .d) (s.reg .c) 1 s

/-- `MOV D,D`, `0x52` (R160). -/
def execMovDD (s : State) : Result := moveTo (.reg .d) (s.reg .d) 1 s

/-- `MOV D,E`, `0x53` (R160). -/
def execMovDE (s : State) : Result := moveTo (.reg .d) (s.reg .e) 1 s

/-- `MOV D,H`, `0x54` (R160). -/
def execMovDH (s : State) : Result := moveTo (.reg .d) (s.reg .h) 1 s

/-- `MOV D,L`, `0x55` (R160). -/
def execMovDL (s : State) : Result := moveTo (.reg .d) (s.reg .l) 1 s

/-- `MOV D,A`, `0x57` (R160). -/
def execMovDA (s : State) : Result := moveTo (.reg .d) (s.reg .a) 1 s

/-- `MOV E,B`, `0x58` (R160). -/
def execMovEB (s : State) : Result := moveTo (.reg .e) (s.reg .b) 1 s

/-- `MOV E,C`, `0x59` (R160). -/
def execMovEC (s : State) : Result := moveTo (.reg .e) (s.reg .c) 1 s

/-- `MOV E,D`, `0x5A` (R160). -/
def execMovED (s : State) : Result := moveTo (.reg .e) (s.reg .d) 1 s

/-- `MOV E,E`, `0x5B` (R160). -/
def execMovEE (s : State) : Result := moveTo (.reg .e) (s.reg .e) 1 s

/-- `MOV E,H`, `0x5C` (R160). -/
def execMovEH (s : State) : Result := moveTo (.reg .e) (s.reg .h) 1 s

/-- `MOV E,L`, `0x5D` (R160). -/
def execMovEL (s : State) : Result := moveTo (.reg .e) (s.reg .l) 1 s

/-- `MOV E,A`, `0x5F` (R160). -/
def execMovEA (s : State) : Result := moveTo (.reg .e) (s.reg .a) 1 s

/-- `MOV H,B`, `0x60` (R160). -/
def execMovHB (s : State) : Result := moveTo (.reg .h) (s.reg .b) 1 s

/-- `MOV H,C`, `0x61` (R160). -/
def execMovHC (s : State) : Result := moveTo (.reg .h) (s.reg .c) 1 s

/-- `MOV H,D`, `0x62` (R160). -/
def execMovHD (s : State) : Result := moveTo (.reg .h) (s.reg .d) 1 s

/-- `MOV H,E`, `0x63` (R160). -/
def execMovHE (s : State) : Result := moveTo (.reg .h) (s.reg .e) 1 s

/-- `MOV H,H`, `0x64` (R160). -/
def execMovHH (s : State) : Result := moveTo (.reg .h) (s.reg .h) 1 s

/-- `MOV H,L`, `0x65` (R160). -/
def execMovHL (s : State) : Result := moveTo (.reg .h) (s.reg .l) 1 s

/-- `MOV H,A`, `0x67` (R160). -/
def execMovHA (s : State) : Result := moveTo (.reg .h) (s.reg .a) 1 s

/-- `MOV L,B`, `0x68` (R160). -/
def execMovLB (s : State) : Result := moveTo (.reg .l) (s.reg .b) 1 s

/-- `MOV L,C`, `0x69` (R160). -/
def execMovLC (s : State) : Result := moveTo (.reg .l) (s.reg .c) 1 s

/-- `MOV L,D`, `0x6A` (R160). -/
def execMovLD (s : State) : Result := moveTo (.reg .l) (s.reg .d) 1 s

/-- `MOV L,E`, `0x6B` (R160). -/
def execMovLE (s : State) : Result := moveTo (.reg .l) (s.reg .e) 1 s

/-- `MOV L,H`, `0x6C` (R160). -/
def execMovLH (s : State) : Result := moveTo (.reg .l) (s.reg .h) 1 s

/-- `MOV L,L`, `0x6D` (R160). -/
def execMovLL (s : State) : Result := moveTo (.reg .l) (s.reg .l) 1 s

/-- `MOV L,A`, `0x6F` (R160). -/
def execMovLA (s : State) : Result := moveTo (.reg .l) (s.reg .a) 1 s

/-- `MOV A,B`, `0x78` (R160). -/
def execMovAB (s : State) : Result := moveTo (.reg .a) (s.reg .b) 1 s

/-- `MOV A,C`, `0x79` (R160). -/
def execMovAC (s : State) : Result := moveTo (.reg .a) (s.reg .c) 1 s

/-- `MOV A,D`, `0x7A` (R160). -/
def execMovAD (s : State) : Result := moveTo (.reg .a) (s.reg .d) 1 s

/-- `MOV A,E`, `0x7B` (R160). -/
def execMovAE (s : State) : Result := moveTo (.reg .a) (s.reg .e) 1 s

/-- `MOV A,H`, `0x7C` (R160). -/
def execMovAH (s : State) : Result := moveTo (.reg .a) (s.reg .h) 1 s

/-- `MOV A,L`, `0x7D` (R160). -/
def execMovAL (s : State) : Result := moveTo (.reg .a) (s.reg .l) 1 s

/-- `MOV A,A`, `0x7F` (R160). -/
def execMovAA (s : State) : Result := moveTo (.reg .a) (s.reg .a) 1 s

/-- `MOV B,M`, `0x46` (R161). -/
def execMovBM (s : State) : Result := moveTo (.reg .b) (s.readByte s.hl) 1 s

/-- `MOV C,M`, `0x4E` (R161). -/
def execMovCM (s : State) : Result := moveTo (.reg .c) (s.readByte s.hl) 1 s

/-- `MOV D,M`, `0x56` (R161). -/
def execMovDM (s : State) : Result := moveTo (.reg .d) (s.readByte s.hl) 1 s

/-- `MOV E,M`, `0x5E` (R161). -/
def execMovEM (s : State) : Result := moveTo (.reg .e) (s.readByte s.hl) 1 s

/-- `MOV H,M`, `0x66` (R161). -/
def execMovHM (s : State) : Result := moveTo (.reg .h) (s.readByte s.hl) 1 s

/-- `MOV L,M`, `0x6E` (R161). -/
def execMovLM (s : State) : Result := moveTo (.reg .l) (s.readByte s.hl) 1 s

/-- `MOV A,M`, `0x7E` (R161). -/
def execMovAM (s : State) : Result := moveTo (.reg .a) (s.readByte s.hl) 1 s

/-- `MOV M,B`, `0x70` (R162). -/
def execMovMB (s : State) : Result := moveTo .m (s.reg .b) 1 s

/-- `MOV M,C`, `0x71` (R162). -/
def execMovMC (s : State) : Result := moveTo .m (s.reg .c) 1 s

/-- `MOV M,D`, `0x72` (R162). -/
def execMovMD (s : State) : Result := moveTo .m (s.reg .d) 1 s

/-- `MOV M,E`, `0x73` (R162). -/
def execMovME (s : State) : Result := moveTo .m (s.reg .e) 1 s

/-- `MOV M,H`, `0x74` (R162). -/
def execMovMH (s : State) : Result := moveTo .m (s.reg .h) 1 s

/-- `MOV M,L`, `0x75` (R162). -/
def execMovML (s : State) : Result := moveTo .m (s.reg .l) 1 s

/-- `MOV M,A`, `0x77` (R162). -/
def execMovMA (s : State) : Result := moveTo .m (s.reg .a) 1 s

/-- `MVI B`, `0x06` (R163). -/
def execMviB (data : Byte) (s : State) : Result := moveTo (.reg .b) data 2 s

/-- `MVI C`, `0x0E` (R163). -/
def execMviC (data : Byte) (s : State) : Result := moveTo (.reg .c) data 2 s

/-- `MVI D`, `0x16` (R163). -/
def execMviD (data : Byte) (s : State) : Result := moveTo (.reg .d) data 2 s

/-- `MVI E`, `0x1E` (R163). -/
def execMviE (data : Byte) (s : State) : Result := moveTo (.reg .e) data 2 s

/-- `MVI H`, `0x26` (R163). -/
def execMviH (data : Byte) (s : State) : Result := moveTo (.reg .h) data 2 s

/-- `MVI L`, `0x2E` (R163). -/
def execMviL (data : Byte) (s : State) : Result := moveTo (.reg .l) data 2 s

/-- `MVI A`, `0x3E` (R163). -/
def execMviA (data : Byte) (s : State) : Result := moveTo (.reg .a) data 2 s

/-- `MVI M`, `0x36` (R164). -/
def execMviM (data : Byte) (s : State) : Result := moveTo .m data 2 s

/-- `LXI B`, `0x01` (R165). -/
def execLxiB (data16 : Word) (s : State) : Result := loadPairImmediate .bc data16 s

/-- `LXI D`, `0x11` (R165). -/
def execLxiD (data16 : Word) (s : State) : Result := loadPairImmediate .de data16 s

/-- `LXI H`, `0x21` (R165). -/
def execLxiH (data16 : Word) (s : State) : Result := loadPairImmediate .hl data16 s

/-- `LXI SP`, `0x31` (R165). -/
def execLxiSP (data16 : Word) (s : State) : Result := loadPairImmediate .sp data16 s

/-- `LDA`, `0x3A` (R166). -/
def execLda (addr : Word) (s : State) : Result := loadA addr 3 s

/-- `STA`, `0x32` (R167). -/
def execSta (addr : Word) (s : State) : Result := storeA addr 3 s

/-- `LDAX B`, `0x0A` (R168). -/
def execLdaxB (s : State) : Result := loadA s.bc 1 s

/-- `LDAX D`, `0x1A` (R168). -/
def execLdaxD (s : State) : Result := loadA s.de 1 s

/-- `STAX B`, `0x02` (R169). -/
def execStaxB (s : State) : Result := storeA s.bc 1 s

/-- `STAX D`, `0x12` (R169). -/
def execStaxD (s : State) : Result := storeA s.de 1 s

/-- `LHLD`, `0x2A` (R170). -/
def execLhld (addr : Word) (s : State) : Result := .next ((s.setHL (s.readWord addr)).advance 3)

/-- `SHLD`, `0x22` (R171). -/
def execShld (addr : Word) (s : State) : Result := .next ((s.writeWord addr s.hl).advance 3)

/-- `XCHG`, `0xEB` (R172). -/
def execXchg (s : State) : Result := .next (((s.setHL s.de).setDE s.hl).advance 1)

/-- `XTHL`, `0xE3` (R173). -/
def execXthl (s : State) : Result := .next (((s.writeWord s.sp s.hl).setHL s.top16).advance 1)

end Sys2Proof.Machine
end

