-- ==== Sys2Proof/Machine/InputOutput.lean ====
section
/-! DEFINITION. InputOutput.lean: IN and OUT (47_io.md).
One definition per instruction, over shared operations. -/

namespace Sys2Proof.Machine

/-- `IN`, `0xDB` (R360). -/
def execInPort (port : Byte) (s : State) : Result :=
  .next (((s.afterPortIn port).setReg .a (s.portIn port)).advance 2)

/-- `OUT`, `0xD3` (R361). -/
def execOutPort (port : Byte) (s : State) : Result := .next ((s.portOut port s.a).advance 2)

end Sys2Proof.Machine
end

