-- ==== Sys2Proof/Machine/Logical.lean ====
section
/-! DEFINITION. Logical.lean: the logical instructions (43_logical.md).
One definition per instruction, over shared operations. -/

namespace Sys2Proof.Machine

/-- `LogicCore(op, v)` and the length of the operand form (R250). -/
def logicCore (op : LogicOp) (x : Src) (s : State) : Result :=
  .next (((s.setFlags (s.f.afterLogic op s.a (s.src x))).setReg .a
    (logicResult op s.a (s.src x))).advance x.length)

/-- `CmpCore(v)`: a subtraction whose result is not written (R251). -/
def compareCore (x : Src) (s : State) : Result :=
  .next ((s.setFlags (s.f.afterSub s.a (s.src x) false)).advance x.length)

/-- `ANA B`, `0xA0` (R252). -/
def execAnaB (s : State) : Result := logicCore .and (.reg .b) s

/-- `ANA C`, `0xA1` (R252). -/
def execAnaC (s : State) : Result := logicCore .and (.reg .c) s

/-- `ANA D`, `0xA2` (R252). -/
def execAnaD (s : State) : Result := logicCore .and (.reg .d) s

/-- `ANA E`, `0xA3` (R252). -/
def execAnaE (s : State) : Result := logicCore .and (.reg .e) s

/-- `ANA H`, `0xA4` (R252). -/
def execAnaH (s : State) : Result := logicCore .and (.reg .h) s

/-- `ANA L`, `0xA5` (R252). -/
def execAnaL (s : State) : Result := logicCore .and (.reg .l) s

/-- `ANA A`, `0xA7` (R252). -/
def execAnaA (s : State) : Result := logicCore .and (.reg .a) s

/-- `ANA M`, `0xA6` (R253). -/
def execAnaM (s : State) : Result := logicCore .and .m s

/-- `ANI`, `0xE6` (R254). -/
def execAni (data : Byte) (s : State) : Result := logicCore .and (.imm data) s

/-- `XRA B`, `0xA8` (R255). -/
def execXraB (s : State) : Result := logicCore .xor (.reg .b) s

/-- `XRA C`, `0xA9` (R255). -/
def execXraC (s : State) : Result := logicCore .xor (.reg .c) s

/-- `XRA D`, `0xAA` (R255). -/
def execXraD (s : State) : Result := logicCore .xor (.reg .d) s

/-- `XRA E`, `0xAB` (R255). -/
def execXraE (s : State) : Result := logicCore .xor (.reg .e) s

/-- `XRA H`, `0xAC` (R255). -/
def execXraH (s : State) : Result := logicCore .xor (.reg .h) s

/-- `XRA L`, `0xAD` (R255). -/
def execXraL (s : State) : Result := logicCore .xor (.reg .l) s

/-- `XRA A`, `0xAF` (R255). -/
def execXraA (s : State) : Result := logicCore .xor (.reg .a) s

/-- `XRA M`, `0xAE` (R256). -/
def execXraM (s : State) : Result := logicCore .xor .m s

/-- `XRI`, `0xEE` (R257). -/
def execXri (data : Byte) (s : State) : Result := logicCore .xor (.imm data) s

/-- `ORA B`, `0xB0` (R258). -/
def execOraB (s : State) : Result := logicCore .or (.reg .b) s

/-- `ORA C`, `0xB1` (R258). -/
def execOraC (s : State) : Result := logicCore .or (.reg .c) s

/-- `ORA D`, `0xB2` (R258). -/
def execOraD (s : State) : Result := logicCore .or (.reg .d) s

/-- `ORA E`, `0xB3` (R258). -/
def execOraE (s : State) : Result := logicCore .or (.reg .e) s

/-- `ORA H`, `0xB4` (R258). -/
def execOraH (s : State) : Result := logicCore .or (.reg .h) s

/-- `ORA L`, `0xB5` (R258). -/
def execOraL (s : State) : Result := logicCore .or (.reg .l) s

/-- `ORA A`, `0xB7` (R258). -/
def execOraA (s : State) : Result := logicCore .or (.reg .a) s

/-- `ORA M`, `0xB6` (R259). -/
def execOraM (s : State) : Result := logicCore .or .m s

/-- `ORI`, `0xF6` (R260). -/
def execOri (data : Byte) (s : State) : Result := logicCore .or (.imm data) s

/-- `CMP B`, `0xB8` (R261). -/
def execCmpB (s : State) : Result := compareCore (.reg .b) s

/-- `CMP C`, `0xB9` (R261). -/
def execCmpC (s : State) : Result := compareCore (.reg .c) s

/-- `CMP D`, `0xBA` (R261). -/
def execCmpD (s : State) : Result := compareCore (.reg .d) s

/-- `CMP E`, `0xBB` (R261). -/
def execCmpE (s : State) : Result := compareCore (.reg .e) s

/-- `CMP H`, `0xBC` (R261). -/
def execCmpH (s : State) : Result := compareCore (.reg .h) s

/-- `CMP L`, `0xBD` (R261). -/
def execCmpL (s : State) : Result := compareCore (.reg .l) s

/-- `CMP A`, `0xBF` (R261). -/
def execCmpA (s : State) : Result := compareCore (.reg .a) s

/-- `CMP M`, `0xBE` (R262). -/
def execCmpM (s : State) : Result := compareCore .m s

/-- `CPI`, `0xFE` (R263). -/
def execCpi (data : Byte) (s : State) : Result := compareCore (.imm data) s

/-- `CMA`, `0x2F` (R264). -/
def execCma (s : State) : Result :=
  unnamed Config.unnamedOps 0x2F (.next ((s.setReg .a (~~~s.a)).advance 1))

/-- `STC`, `0x37` (R265). -/
def execStc (s : State) : Result :=
  unnamed Config.unnamedOps 0x37 (.next ((s.setFlags (s.f.setCY true)).advance 1))

/-- `CMC`, `0x3F` (R266). -/
def execCmc (s : State) : Result :=
  unnamed Config.unnamedOps 0x3F (.next ((s.setFlags (s.f.setCY (!s.f.cy))).advance 1))

end Sys2Proof.Machine
end

