-- ==== Sys2Proof/Machine/Rotate.lean ====
section
/-! DEFINITION. Rotate.lean: the rotate instructions (44_rotate.md): `A` and `CY` only.
One definition per instruction, over shared operations. -/

namespace Sys2Proof.Machine

/-- A rotate: the new accumulator and the bit rotated out. -/
def rotateTo (v : Byte) (out : Bool) (s : State) : Result :=
  .next (((s.setFlags (s.f.setCY out)).setReg .a v).advance 1)

/-- `{A[6:0], c}`. -/
def shiftLeftIn (x : Byte) (c : Bool) : Byte := x.extractLsb' 0 7 ++ BitVec.ofBool c

/-- `{c, A[7:1]}`. -/
def shiftRightIn (x : Byte) (c : Bool) : Byte := BitVec.ofBool c ++ x.extractLsb' 1 7

/-- `RLC`, `0x07` (R290). -/
def execRlc (s : State) : Result := rotateTo (shiftLeftIn s.a (s.a.getLsbD 7)) (s.a.getLsbD 7) s

/-- `RRC`, `0x0F` (R291). -/
def execRrc (s : State) : Result := rotateTo (shiftRightIn s.a (s.a.getLsbD 0)) (s.a.getLsbD 0) s

/-- `RAL`, `0x17` (R292). -/
def execRal (s : State) : Result := rotateTo (shiftLeftIn s.a s.f.cy) (s.a.getLsbD 7) s

/-- `RAR`, `0x1F` (R293). -/
def execRar (s : State) : Result := rotateTo (shiftRightIn s.a s.f.cy) (s.a.getLsbD 0) s

end Sys2Proof.Machine
end

