-- ==== Sys2Proof/Machine/Stack.lean ====
section
/-! DEFINITION. Stack.lean: the stack instructions (46_stack.md).
One definition per instruction, over shared operations. -/

namespace Sys2Proof.Machine

/-- PUSH (R341, R342). -/
def pushPair (p : StackPair) (s : State) : Result :=
  .next ((s.push16 (s.stackPair p)).advance 1)

/-- POP (R343, R344). -/
def popPair (p : StackPair) (s : State) : Result :=
  .next ((s.drop16.setStackPair p s.top16).advance 1)

/-- `PUSH B`, `0xC5` (R341). -/
def execPushB (s : State) : Result := pushPair .bc s

/-- `PUSH D`, `0xD5` (R341). -/
def execPushD (s : State) : Result := pushPair .de s

/-- `PUSH H`, `0xE5` (R341). -/
def execPushH (s : State) : Result := pushPair .hl s

/-- `PUSH PSW`, `0xF5` (R342). -/
def execPushPSW (s : State) : Result := pushPair .psw s

/-- `POP B`, `0xC1` (R343). -/
def execPopB (s : State) : Result := popPair .bc s

/-- `POP D`, `0xD1` (R343). -/
def execPopD (s : State) : Result := popPair .de s

/-- `POP H`, `0xE1` (R343). -/
def execPopH (s : State) : Result := popPair .hl s

/-- `POP PSW`, `0xF1` (R344). -/
def execPopPSW (s : State) : Result := popPair .psw s

/-- `SPHL`, `0xF9` (R345). -/
def execSphl (s : State) : Result := unnamed Config.unnamedOps 0xF9 (.next ((s.setSP s.hl).advance 1))

end Sys2Proof.Machine
end

