-- ==== Sys2Proof/Machine/Run.lean ====
section
/-! DEFINITION. Run.lean: fetching an instruction and the instruction step (40_dispatch_flags_pairs.md R130), and the
host's use of it (60_exceptions.md R423). -/

namespace Sys2Proof.Machine

/-- The instruction at `PC`. The bytes at `PC+1` and `PC+2` are read whatever the opcode; a read has no effect
(20_memory.md R63, log 13). -/
def State.fetch (s : State) : Instr :=
  decodeOp (s.readByte s.pc) (s.readByte (s.pc + 1)) (s.readByte (s.pc + 2))

/-- The instruction step: `op <- MemRead(PC, 1)`, then `execute(state, op)` (R130). It does not test `HALT` (R423). -/
def instructionStep (s : State) : Result := exec s.fetch s

/-- One turn of the host: an instruction step, or nothing while `HALT` = 1, when the host issues no step (R423).
Log 10, DESIGN CHOICE. Unsafe. -/
def issue (s : State) : Result := if s.halt then .next s else instructionStep s

/-- Bytes written at an address and the addresses after it, wrapping. -/
def State.writeBytes (s : State) (addr : Word) : List Byte → State
  | [] => s
  | v :: vs => State.writeBytes (s.writeByte addr v) (addr + 1) vs

/-- The state with an instruction's bits stored at `PC` and the core not halted (log 11). -/
def State.placeWord (s : State) (nbits w : Nat) : State :=
  (s.writeBytes s.pc (tableBytes nbits w)).setHalt false

end Sys2Proof.Machine
end

