-- ==== Sys2Proof/Machine/Step.lean ====
section
/-! DEFINITION. Step.lean: the step of the machine, and placing an instruction where it fetches. -/

namespace Sys2Proof.Machine

/-- One step (40_dispatch_flags_pairs.md R130, 60_exceptions.md R423). -/
def step (s : State) : Host.Outcome State Fault Refusal := issue s

/-- The state with the instruction whose bits are `w` where `step` fetches next. -/
def State.withFetchWord (s : State) (nbits w : Nat) : State := s.placeWord nbits w

end Sys2Proof.Machine
end

