-- ==== Sys2Proof/Machine/Forms.lean ====
section
/-! DEFINITION. Forms.lean: the constructors of each family by their operand codes (30_encoding.md R93 to R97, R101), so
that one statement can speak of every form of an instruction. -/

namespace Sys2Proof.Machine

/-- `MOV r1,r2` (R160). -/
def Form.movReg : Reg → Reg → Instr
  | .b, .b => .movBB
  | .b, .c => .movBC
  | .b, .d => .movBD
  | .b, .e => .movBE
  | .b, .h => .movBH
  | .b, .l => .movBL
  | .b, .a => .movBA
  | .c, .b => .movCB
  | .c, .c => .movCC
  | .c, .d => .movCD
  | .c, .e => .movCE
  | .c, .h => .movCH
  | .c, .l => .movCL
  | .c, .a => .movCA
  | .d, .b => .movDB
  | .d, .c => .movDC
  | .d, .d => .movDD
  | .d, .e => .movDE
  | .d, .h => .movDH
  | .d, .l => .movDL
  | .d, .a => .movDA
  | .e, .b => .movEB
  | .e, .c => .movEC
  | .e, .d => .movED
  | .e, .e => .movEE
  | .e, .h => .movEH
  | .e, .l => .movEL
  | .e, .a => .movEA
  | .h, .b => .movHB
  | .h, .c => .movHC
  | .h, .d => .movHD
  | .h, .e => .movHE
  | .h, .h => .movHH
  | .h, .l => .movHL
  | .h, .a => .movHA
  | .l, .b => .movLB
  | .l, .c => .movLC
  | .l, .d => .movLD
  | .l, .e => .movLE
  | .l, .h => .movLH
  | .l, .l => .movLL
  | .l, .a => .movLA
  | .a, .b => .movAB
  | .a, .c => .movAC
  | .a, .d => .movAD
  | .a, .e => .movAE
  | .a, .h => .movAH
  | .a, .l => .movAL
  | .a, .a => .movAA

/-- `MOV r,M` (R161). -/
def Form.movLoad : Reg → Instr
  | .b => .movBM
  | .c => .movCM
  | .d => .movDM
  | .e => .movEM
  | .h => .movHM
  | .l => .movLM
  | .a => .movAM

/-- `MOV M,r` (R162). -/
def Form.movStore : Reg → Instr
  | .b => .movMB
  | .c => .movMC
  | .d => .movMD
  | .e => .movME
  | .h => .movMH
  | .l => .movML
  | .a => .movMA

/-- `MVI` (R163, R164). -/
def Form.mvi : Loc → Byte → Instr
  | .reg .b, v => .mviB v
  | .reg .c, v => .mviC v
  | .reg .d, v => .mviD v
  | .reg .e, v => .mviE v
  | .reg .h, v => .mviH v
  | .reg .l, v => .mviL v
  | .reg .a, v => .mviA v
  | .m, v => .mviM v

/-- `LXI` (R165). -/
def Form.lxi : Pair → Word → Instr
  | .bc, v => .lxiB v
  | .de, v => .lxiD v
  | .hl, v => .lxiH v
  | .sp, v => .lxiSP v

/-- `ADD` and `ADI`, by the operand form (R202). -/
def Form.add : Src → Instr
  | .reg .b => .addB
  | .reg .c => .addC
  | .reg .d => .addD
  | .reg .e => .addE
  | .reg .h => .addH
  | .reg .l => .addL
  | .reg .a => .addA
  | .m => .addM
  | .imm v => .adi v

/-- `ADC` and `ACI`, by the operand form (R202). -/
def Form.adc : Src → Instr
  | .reg .b => .adcB
  | .reg .c => .adcC
  | .reg .d => .adcD
  | .reg .e => .adcE
  | .reg .h => .adcH
  | .reg .l => .adcL
  | .reg .a => .adcA
  | .m => .adcM
  | .imm v => .aci v

/-- `SUB` and `SUI`, by the operand form (R202). -/
def Form.sub : Src → Instr
  | .reg .b => .subB
  | .reg .c => .subC
  | .reg .d => .subD
  | .reg .e => .subE
  | .reg .h => .subH
  | .reg .l => .subL
  | .reg .a => .subA
  | .m => .subM
  | .imm v => .sui v

/-- `SBB` and `SBI`, by the operand form (R202). -/
def Form.sbb : Src → Instr
  | .reg .b => .sbbB
  | .reg .c => .sbbC
  | .reg .d => .sbbD
  | .reg .e => .sbbE
  | .reg .h => .sbbH
  | .reg .l => .sbbL
  | .reg .a => .sbbA
  | .m => .sbbM
  | .imm v => .sbi v

/-- `ANA` and `ANI`, by the operand form (R202). -/
def Form.ana : Src → Instr
  | .reg .b => .anaB
  | .reg .c => .anaC
  | .reg .d => .anaD
  | .reg .e => .anaE
  | .reg .h => .anaH
  | .reg .l => .anaL
  | .reg .a => .anaA
  | .m => .anaM
  | .imm v => .ani v

/-- `XRA` and `XRI`, by the operand form (R202). -/
def Form.xra : Src → Instr
  | .reg .b => .xraB
  | .reg .c => .xraC
  | .reg .d => .xraD
  | .reg .e => .xraE
  | .reg .h => .xraH
  | .reg .l => .xraL
  | .reg .a => .xraA
  | .m => .xraM
  | .imm v => .xri v

/-- `ORA` and `ORI`, by the operand form (R202). -/
def Form.ora : Src → Instr
  | .reg .b => .oraB
  | .reg .c => .oraC
  | .reg .d => .oraD
  | .reg .e => .oraE
  | .reg .h => .oraH
  | .reg .l => .oraL
  | .reg .a => .oraA
  | .m => .oraM
  | .imm v => .ori v

/-- `CMP` and `CPI`, by the operand form (R202). -/
def Form.cmp : Src → Instr
  | .reg .b => .cmpB
  | .reg .c => .cmpC
  | .reg .d => .cmpD
  | .reg .e => .cmpE
  | .reg .h => .cmpH
  | .reg .l => .cmpL
  | .reg .a => .cmpA
  | .m => .cmpM
  | .imm v => .cpi v

/-- `INR` (R217, R218). -/
def Form.inr : Loc → Instr
  | .reg .b => .inrB
  | .reg .c => .inrC
  | .reg .d => .inrD
  | .reg .e => .inrE
  | .reg .h => .inrH
  | .reg .l => .inrL
  | .reg .a => .inrA
  | .m => .inrM

/-- `DCR` (R219, R220). -/
def Form.dcr : Loc → Instr
  | .reg .b => .dcrB
  | .reg .c => .dcrC
  | .reg .d => .dcrD
  | .reg .e => .dcrE
  | .reg .h => .dcrH
  | .reg .l => .dcrL
  | .reg .a => .dcrA
  | .m => .dcrM

/-- `INX` (R221). -/
def Form.inx : Pair → Instr
  | .bc => .inxB
  | .de => .inxD
  | .hl => .inxH
  | .sp => .inxSP

/-- `DCX` (R222). -/
def Form.dcx : Pair → Instr
  | .bc => .dcxB
  | .de => .dcxD
  | .hl => .dcxH
  | .sp => .dcxSP

/-- `DAD` (R223). -/
def Form.dad : Pair → Instr
  | .bc => .dadB
  | .de => .dadD
  | .hl => .dadH
  | .sp => .dadSP

/-- `Jcond` (R301). -/
def Form.jcond : Cond → Word → Instr
  | .nz, addr => .jnz addr
  | .z, addr => .jz addr
  | .nc, addr => .jnc addr
  | .c, addr => .jc addr
  | .po, addr => .jpo addr
  | .pe, addr => .jpe addr
  | .p, addr => .jp addr
  | .m, addr => .jm addr

/-- `Ccond` (R303). -/
def Form.ccond : Cond → Word → Instr
  | .nz, addr => .cnz addr
  | .z, addr => .cz addr
  | .nc, addr => .cnc addr
  | .c, addr => .cc addr
  | .po, addr => .cpo addr
  | .pe, addr => .cpe addr
  | .p, addr => .cp addr
  | .m, addr => .cm addr

/-- `Rcond` (R305). -/
def Form.rcond : Cond → Instr
  | .nz => .rnz
  | .z => .rz
  | .nc => .rnc
  | .c => .rc
  | .po => .rpo
  | .pe => .rpe
  | .p => .rp
  | .m => .rm

/-- `PUSH` (R341, R342). -/
def Form.push : StackPair → Instr
  | .bc => .pushB
  | .de => .pushD
  | .hl => .pushH
  | .psw => .pushPSW

/-- `POP` (R343, R344). -/
def Form.pop : StackPair → Instr
  | .bc => .popB
  | .de => .popD
  | .hl => .popH
  | .psw => .popPSW

/-- `RST n` (R307). -/
def Form.rst : Fin 8 → Instr
  | 0 => .rst0
  | 1 => .rst1
  | 2 => .rst2
  | 3 => .rst3
  | 4 => .rst4
  | 5 => .rst5
  | 6 => .rst6
  | 7 => .rst7

end Sys2Proof.Machine
end

