-- ==== Sys2Proof/Machine/Environment.lean ====
section
/-! DEFINITION. Environment.lean: what the host may do to the core (60_exceptions.md R426): load an image, step, deliver an
interrupt, change the input shadows, take the sound events. -/

namespace Sys2Proof.Machine

/-- The result of an image load (20_memory.md R77). -/
inductive LoadResult where
  /-- The image stands in memory. -/
  | loaded (s : State)
  /-- The load failed and wrote nothing. -/
  | failed
  deriving DecidableEq, Repr

/-- The memory-load collaborator: every byte of the image or none; a load does not wrap (20_memory.md R77,
70_reset_and_hazards.md R465). -/
def loadImage (base : Nat) (image : List Byte) (s : State) : LoadResult :=
  if base + image.length ≤ 65536 then .loaded (s.writeBytes (BitVec.ofNat 16 base) image) else .failed

/-- One action of the host between instructions (R426, R439). -/
inductive HostAction where
  /-- A step of the machine. -/
  | step
  /-- `deliver(vector)`. -/
  | deliver (vector : Nat)
  /-- A new value in the shadow `P1`. -/
  | input1 (v : Byte)
  /-- A new value in the shadow `P2`. -/
  | input2 (v : Byte)
  /-- The sound events emitted so far are taken. -/
  | takeSound
  deriving DecidableEq, Repr

/-- The state after `deliver(vector)`; the error `InvalidVector` leaves it unchanged and the caller goes on (R402). -/
def afterDeliver (vector : Nat) (s : State) : State :=
  match deliver vector s with
  | .ok t => t
  | .invalidVector => s

/-- The machine after one action of the host. -/
def hostAct (act : HostAction) (s : State) : Result :=
  match act with
  | .step => step s
  | .deliver vector => .next (afterDeliver vector s)
  | .input1 v => .next { s with p1 := v }
  | .input2 v => .next { s with p2 := v }
  | .takeSound => .next { s with sound := [] }

/-- The machine after a schedule of host actions from any state, also where the host goes on after a halt, which the
definition of a run leaves open (R425). A fault ends it (R424). -/
def runSchedule : List HostAction → State → Result
  | [], s => .next s
  | act :: acts, s =>
    match hostAct act s with
    | .next t => runSchedule acts t
    | .fault f => .fault f
    | .refused r => .refused r

/-! ### A run (60_exceptions.md R425) -/

/-- A state with `HALT` = 1: the only final state of a run (R425). -/
def State.isFinal (s : State) : Bool := s.halt

/-- What a run has come to. -/
inductive RunStatus where
  /-- The image load failed: nothing runs (70_reset_and_hazards.md R465). -/
  | notStarted
  /-- The run has not ended. -/
  | running (s : State)
  /-- The run has ended in its first state with `HALT` = 1. -/
  | halted (s : State)
  /-- The run has ended in a fault, raised in state `s`, which is no final state. -/
  | faulted (s : State) (f : Fault)
  /-- The model refused an instruction: never. -/
  | refused (r : Refusal)
  deriving DecidableEq, Repr

/-- The run has ended, or never started. -/
def RunStatus.ended : RunStatus → Bool
  | .notStarted => true
  | .running _ => false
  | .halted _ => true
  | .faulted _ _ => true
  | .refused _ => true

/-- A run continued from a state by what the host does next. It ends at the first state with `HALT` = 1 or at a fault;
no later action belongs to it (R423, R425, log 15). -/
def continueRun : List HostAction → State → RunStatus
  | [], s => if s.isFinal then .halted s else .running s
  | act :: acts, s =>
    if s.isFinal then .halted s
    else
      match hostAct act s with
      | .next t => continueRun acts t
      | .fault f => .faulted s f
      | .refused r => .refused r

/-- The run of an image after what the host does: it starts at the reset state with the image loaded (R425, R465). -/
def runAfter (base : Nat) (image : List Byte) (acts : List HostAction) : RunStatus :=
  match loadImage base image State.reset with
  | .loaded s => continueRun acts s
  | .failed => .notStarted

/-- The first `n` actions of a host. -/
def firstActions (host : Nat → HostAction) (n : Nat) : List HostAction := (List.range n).map host

/-- The run ends in the final state `t` (R425). -/
def RunHalts (base : Nat) (image : List Byte) (host : Nat → HostAction) (t : State) : Prop :=
  ∃ n, runAfter base image (firstActions host n) = .halted t

/-- The run ends in the fault `f`, raised in state `s` (R425). -/
def RunFaults (base : Nat) (image : List Byte) (host : Nat → HostAction) (s : State) (f : Fault) : Prop :=
  ∃ n, runAfter base image (firstActions host n) = .faulted s f

/-- The run goes on for ever (R425). -/
def RunGoesOn (base : Nat) (image : List Byte) (host : Nat → HostAction) : Prop :=
  ∀ n, ∃ s, runAfter base image (firstActions host n) = .running s

/-! ### The input bits (60_exceptions.md R433) -/

/-- Port 1 bit 0: coin. -/
def State.coin (s : State) : Bool := s.p1.getLsbD 0

/-- Port 1 bit 1: player 2 start. -/
def State.player2Start (s : State) : Bool := s.p1.getLsbD 1

/-- Port 1 bit 2: player 1 start. -/
def State.player1Start (s : State) : Bool := s.p1.getLsbD 2

/-- Port 1 bit 4: player 1 shoot. -/
def State.player1Shoot (s : State) : Bool := s.p1.getLsbD 4

/-- Port 1 bit 5: player 1 left. -/
def State.player1Left (s : State) : Bool := s.p1.getLsbD 5

/-- Port 1 bit 6: player 1 right. -/
def State.player1Right (s : State) : Bool := s.p1.getLsbD 6

/-- Port 2 bit 2: tilt. -/
def State.tilt (s : State) : Bool := s.p2.getLsbD 2

/-- Port 2 bit 4: player 2 shoot. -/
def State.player2Shoot (s : State) : Bool := s.p2.getLsbD 4

/-- Port 2 bit 5: player 2 left. -/
def State.player2Left (s : State) : Bool := s.p2.getLsbD 5

/-- Port 2 bit 6: player 2 right. -/
def State.player2Right (s : State) : Bool := s.p2.getLsbD 6

end Sys2Proof.Machine
end

