-- ==== Sys2Proof/Machine/Scheduler.lean ====
section
/-! DEFINITION. Scheduler.lean: cycle counts (70_reset_and_hazards.md R479 to R481), `execute` with the count it returns
(40_dispatch_flags_pairs.md R131), and the host's scheduler (60_exceptions.md R420 to R422). No instruction reads a
count. -/

namespace Sys2Proof.Machine

/-- `P_CYCLES`: the count for an opcode byte and for whether its condition held (00_scope.md R7). -/
abbrev CycleTable := Byte → Bool → Nat

/-- The counts of the opcode bytes `0x00` to `0xBF`, by high nibble (R480); 0 for an undefined byte, which returns none. -/
def cycleRowsLow : List (List Nat) :=
  [[4, 10, 7, 5, 5, 5, 7, 4, 0, 10, 7, 5, 5, 5, 7, 4],
   [0, 10, 7, 5, 5, 5, 7, 4, 0, 10, 7, 5, 5, 5, 7, 4],
   [0, 10, 16, 5, 5, 5, 7, 4, 0, 10, 16, 5, 5, 5, 7, 4],
   [0, 10, 13, 5, 10, 10, 10, 4, 0, 10, 13, 5, 5, 5, 7, 4],
   [5, 5, 5, 5, 5, 5, 7, 5, 5, 5, 5, 5, 5, 5, 7, 5],
   [5, 5, 5, 5, 5, 5, 7, 5, 5, 5, 5, 5, 5, 5, 7, 5],
   [5, 5, 5, 5, 5, 5, 7, 5, 5, 5, 5, 5, 5, 5, 7, 5],
   [7, 7, 7, 7, 7, 7, 7, 7, 5, 5, 5, 5, 5, 5, 7, 5],
   [4, 4, 4, 4, 4, 4, 7, 4, 4, 4, 4, 4, 4, 4, 7, 4],
   [4, 4, 4, 4, 4, 4, 7, 4, 4, 4, 4, 4, 4, 4, 7, 4],
   [4, 4, 4, 4, 4, 4, 7, 4, 4, 4, 4, 4, 4, 4, 7, 4],
   [4, 4, 4, 4, 4, 4, 7, 4, 4, 4, 4, 4, 4, 4, 7, 4]]

/-- The counts of `0xC0` to `0xFF` where the condition holds, and of the unconditional instructions (R480). -/
def cycleRowsTaken : List (List Nat) :=
  [[11, 10, 10, 10, 17, 11, 7, 11, 11, 10, 10, 0, 17, 17, 7, 11],
   [11, 10, 10, 10, 17, 11, 7, 11, 11, 0, 10, 10, 17, 0, 7, 11],
   [11, 10, 10, 18, 17, 11, 7, 11, 11, 5, 10, 4, 17, 0, 7, 11],
   [11, 10, 10, 4, 17, 11, 7, 11, 11, 5, 10, 4, 17, 0, 7, 11]]

/-- The counts of `0xC0` to `0xFF` where the condition does not hold (R480, R481). -/
def cycleRowsNotTaken : List (List Nat) :=
  [[5, 10, 10, 10, 11, 11, 7, 11, 5, 10, 10, 0, 11, 17, 7, 11],
   [5, 10, 10, 10, 11, 11, 7, 11, 5, 0, 10, 10, 11, 0, 7, 11],
   [5, 10, 10, 18, 11, 11, 7, 11, 5, 5, 10, 4, 11, 0, 7, 11],
   [5, 10, 10, 4, 11, 11, 7, 11, 5, 5, 10, 4, 11, 0, 7, 11]]

/-- The spec's default of `P_CYCLES` (R480). -/
def defaultCycles : CycleTable := fun op taken =>
  ((cycleRowsLow ++ if taken then cycleRowsTaken else cycleRowsNotTaken).getD (op.toNat / 16) []).getD
    (op.toNat % 16) 0

/-- The opcode byte is a conditional jump, call or return: `11ccc010`, `11ccc100` or `11ccc000` (30_encoding.md R93). -/
def isConditional (op : Byte) : Bool :=
  decide (op.toNat / 64 = 3) &&
    (decide (op.toNat % 8 = 0) || decide (op.toNat % 8 = 2) || decide (op.toNat % 8 = 4))

/-- Whether the condition of an opcode byte holds; true for an unconditional one (00_scope.md R13). -/
def conditionHeld (op : Byte) (f : Flags) : Bool :=
  if isConditional op then (Cond.ofCode (op.extractLsb' 3 3)).holds f else true

/-- What `execute` answers (R131). -/
inductive Executed where
  /-- Success, with the cycle count. -/
  | ok (s : State) (cycles : Nat)
  /-- `UnimplementedOpcode`. -/
  | error (f : Fault)
  /-- An instruction with no meaning in the model: none. -/
  | refused (r : Refusal)
  deriving DecidableEq, Repr

/-- `execute(state, MEM[PC])` (R130, R131). -/
def execute (cost : CycleTable) (s : State) : Executed :=
  match instructionStep s with
  | .next t => .ok t (cost (s.readByte s.pc) (conditionHeld (s.readByte s.pc) s.f))
  | .fault f => .error f
  | .refused r => .refused r

/-- What a call of the scheduler has come to. -/
inductive BudgetResult where
  /-- It returns: the budget is used up or the core is halted; the second part is `acc - cycle_budget`. -/
  | done (s : State) (leftover : Int)
  /-- `UnimplementedOpcode` unwound out of the loop, in the state it left (R424). -/
  | error (s : State) (f : Fault)
  /-- The model refused an instruction: never. -/
  | refused (r : Refusal)
  /-- The loop goes on: the state and the accumulator after the turns that were looked at (log 9). -/
  | running (s : State) (acc : Int)
  deriving DecidableEq, Repr

/-- The call has returned or unwound. -/
def BudgetResult.final : BudgetResult → Bool
  | .done _ _ => true
  | .error _ _ => true
  | .refused _ => true
  | .running _ _ => false

/-- One turn of the loop of `run_for_budget`: its test, and its body where the test holds (R420). -/
def budgetTurn (cost : CycleTable) (budget acc : Int) (s : State) : BudgetResult :=
  if acc < budget ∧ s.halt = false then
    match execute cost s with
    | .ok t cycles => .running t (acc + cycles)
    | .error f => .error s f
    | .refused r => .refused r
  else .done s (acc - budget)

/-- The loop of `run_for_budget` (R420) from an accumulator, after a number of turns. -/
def budgetLoop (cost : CycleTable) (budget : Int) : Nat → Int → State → BudgetResult
  | 0, acc, s => .running s acc
  | turns + 1, acc, s =>
    match budgetTurn cost budget acc s with
    | .done t left => .done t left
    | .error t f => .error t f
    | .refused r => .refused r
    | .running t acc' => budgetLoop cost budget turns acc' t

/-- `run_for_budget(state, cycle_budget)` (R420) after a number of turns. Under a table with a count of 0 no number of
turns is enough for every state, and the rule's loop itself may never end; where every count is at least 1, one turn
more than the budget is enough. -/
def runForBudget (cost : CycleTable) (budget : Int) (turns : Nat) (s : State) : BudgetResult :=
  budgetLoop cost budget turns 0 s

/-- The loop from an accumulator returns `r`. -/
def LoopReturns (cost : CycleTable) (budget acc : Int) (s : State) (r : BudgetResult) : Prop :=
  r.final = true ∧ ∃ turns, budgetLoop cost budget turns acc s = r

/-- `run_for_budget(state, cycle_budget)` returns `r` (R420), under any table. -/
def BudgetReturns (cost : CycleTable) (budget : Int) (s : State) (r : BudgetResult) : Prop :=
  LoopReturns cost budget 0 s r

/-- `run_for_budget(state, cycle_budget)` never returns: possible only under a table with a count of 0. -/
def BudgetNeverReturns (cost : CycleTable) (budget : Int) (s : State) : Prop :=
  ∀ turns, (runForBudget cost budget turns s).final = false

/-- One frame tick (R422): a half budget, `deliver(1)`, a half budget, `deliver(2)`, each call of `run_for_budget` looked
at for a number of turns. The half budgets are `P_HALF_BUDGET`; the overshoot of each call is subtracted from the budget
of the next, the first of this tick taking that of the tick before (conflict C11). The leftover answered is that of the
second call. -/
def tick (cost : CycleTable) (half1 half2 carried : Int) (turns : Nat) (s : State) : BudgetResult :=
  match runForBudget cost (half1 - carried) turns s with
  | .done s1 left1 =>
    match runForBudget cost (half2 - left1) turns (afterDeliver 1 s1) with
    | .done s2 left2 => .done (afterDeliver 2 s2) left2
    | .error s2 f => .error s2 f
    | .refused r => .refused r
    | .running s2 acc => .running s2 acc
  | .error s1 f => .error s1 f
  | .refused r => .refused r
  | .running s1 acc => .running s1 acc

/-- The tick returns `r` (R422), under any table. -/
def TickReturns (cost : CycleTable) (half1 half2 carried : Int) (s : State) (r : BudgetResult) : Prop :=
  r.final = true ∧ ∃ turns, tick cost half1 half2 carried turns s = r

end Sys2Proof.Machine
end

