-- ==== Sys2Proof/Safety.lean ====
section
/-! DEFINITION. Safety.lean: the terms in which claims are stated: what a safe outcome is, the invariant, and what a step
leaves unchanged. -/

namespace Sys2Proof.Machine

/-- A safe outcome: the machine goes on. -/
def Safe (o : Result) : Prop := ∃ t, o = .next t

/-- The invariant of the state: memory is in its canonical form, so that equal memories are equal data. -/
def State.Inv (s : State) : Prop := s.mem.wf = true

/-- Every byte of memory reads as before. -/
def MemorySame (s t : State) : Prop := ∀ x : Word, t.readByte x = s.readByte x

/-- Every byte of memory but those at the addresses listed reads as before. -/
def MemorySameBut (addrs : List Word) (s t : State) : Prop :=
  ∀ x : Word, x ∉ addrs → t.readByte x = s.readByte x

/-- Every general register but those listed is as before. -/
def RegsSameBut (rs : List Reg) (s t : State) : Prop := ∀ r : Reg, r ∉ rs → t.reg r = s.reg r

/-- The interrupt-enabled and halted flags are as before. -/
def ControlSame (s t : State) : Prop := t.ie = s.ie ∧ t.halt = s.halt

/-- The input shadows are as before. -/
def InputsSame (s t : State) : Prop := t.p1 = s.p1 ∧ t.p2 = s.p2

/-- The shift register and its offset are as before. -/
def ShifterSame (s t : State) : Prop := t.srHi = s.srHi ∧ t.srLo = s.srLo ∧ t.srOff = s.srOff

/-- The sound latches and the emitted sound events are as before. -/
def SoundSame (s t : State) : Prop := t.snd3 = s.snd3 ∧ t.snd5 = s.snd5 ∧ t.sound = s.sound

/-- Nothing of the port bridge changes, and no free value is drawn. -/
def DeviceSame (s t : State) : Prop :=
  InputsSame s t ∧ ShifterSame s t ∧ SoundSame s t ∧ t.draws = s.draws

/-- `Z`, `S` and `P` are those of an 8-bit result: zero, bit 7, an even number of 1 bits. -/
def ZspOf (f : Flags) (v : Byte) : Prop :=
  (f.z = true ↔ v = 0) ∧ (f.s = true ↔ 128 ≤ v.toNat) ∧
    (f.p = true ↔ (List.range 8).countP (fun i => v.getLsbD i) % 2 = 0)

/-- The three unused bits of `F` are as before. -/
def UnusedSame (f g : Flags) : Prop := g.bit5 = f.bit5 ∧ g.bit3 = f.bit3 ∧ g.bit1 = f.bit1

/-- `DAD`, the rotates, `STC` and `CMC` write `CY`: every other bit of `F` is as before. -/
def OnlyCarryMayChange (f g : Flags) : Prop :=
  g.s = f.s ∧ g.z = f.z ∧ g.ac = f.ac ∧ g.p = f.p ∧ UnusedSame f g

/-- The instructions that write no flag (10_state.md R31). -/
def writesNoFlag : Instr → Bool
  | .nop | .lxiB _ | .staxB | .inxB | .mviB _ | .ldaxB | .dcxB | .mviC _ | .lxiD _ | .staxD | .inxD | .mviD _
  | .ldaxD | .dcxD | .mviE _ | .lxiH _ | .shld _ | .inxH | .mviH _ | .lhld _ | .dcxH | .mviL _ | .cma
  | .lxiSP _ | .sta _ | .inxSP | .mviM _ | .lda _ | .dcxSP | .mviA _ | .movBB | .movBC | .movBD | .movBE
  | .movBH | .movBL | .movBM | .movBA | .movCB | .movCC | .movCD | .movCE | .movCH | .movCL | .movCM | .movCA
  | .movDB | .movDC | .movDD | .movDE | .movDH | .movDL | .movDM | .movDA | .movEB | .movEC | .movED | .movEE
  | .movEH | .movEL | .movEM | .movEA | .movHB | .movHC | .movHD | .movHE | .movHH | .movHL | .movHM | .movHA
  | .movLB | .movLC | .movLD | .movLE | .movLH | .movLL | .movLM | .movLA | .movMB | .movMC | .movMD | .movME
  | .movMH | .movML | .hlt | .movMA | .movAB | .movAC | .movAD | .movAE | .movAH | .movAL | .movAM | .movAA
  | .rnz | .popB | .jnz _ | .jmp _ | .cnz _ | .pushB | .rst0 | .rz | .ret | .jz _ | .cz _ | .call _ | .rst1
  | .rnc | .popD | .jnc _ | .outPort _ | .cnc _ | .pushD | .rst2 | .rc | .jc _ | .inPort _ | .cc _ | .rst3
  | .rpo | .popH | .jpo _ | .xthl | .cpo _ | .pushH | .rst4 | .rpe | .pchl | .jpe _ | .xchg | .cpe _ | .rst5
  | .rp | .jp _ | .di | .cp _ | .pushPSW | .rst6 | .rm | .sphl | .jm _ | .ei | .cm _ | .rst7 => true
  | .inrB | .dcrB | .rlc | .dadB | .inrC | .dcrC | .rrc | .inrD | .dcrD | .ral | .dadD | .inrE | .dcrE | .rar
  | .inrH | .dcrH | .daa | .dadH | .inrL | .dcrL | .inrM | .dcrM | .stc | .dadSP | .inrA | .dcrA | .cmc | .addB
  | .addC | .addD | .addE | .addH | .addL | .addM | .addA | .adcB | .adcC | .adcD | .adcE | .adcH | .adcL
  | .adcM | .adcA | .subB | .subC | .subD | .subE | .subH | .subL | .subM | .subA | .sbbB | .sbbC | .sbbD
  | .sbbE | .sbbH | .sbbL | .sbbM | .sbbA | .anaB | .anaC | .anaD | .anaE | .anaH | .anaL | .anaM | .anaA
  | .xraB | .xraC | .xraD | .xraE | .xraH | .xraL | .xraM | .xraA | .oraB | .oraC | .oraD | .oraE | .oraH
  | .oraL | .oraM | .oraA | .cmpB | .cmpC | .cmpD | .cmpE | .cmpH | .cmpL | .cmpM | .cmpA | .adi _ | .aci _
  | .sui _ | .sbi _ | .ani _ | .xri _ | .popPSW | .ori _ | .cpi _ | .undefined _ => false

/-- The instructions that write memory (20_memory.md R62, R65 and the instruction rules). -/
def storesMemory : Instr → Bool
  | .staxB | .staxD | .shld _ | .sta _ | .inrM | .dcrM | .mviM _ | .movMB | .movMC | .movMD | .movME | .movMH
  | .movML | .movMA | .cnz _ | .pushB | .rst0 | .cz _ | .call _ | .rst1 | .cnc _ | .pushD | .rst2 | .cc _
  | .rst3 | .xthl | .cpo _ | .pushH | .rst4 | .cpe _ | .rst5 | .cp _ | .pushPSW | .rst6 | .cm _ | .rst7 => true
  | .nop | .lxiB _ | .inxB | .inrB | .dcrB | .mviB _ | .rlc | .dadB | .ldaxB | .dcxB | .inrC | .dcrC | .mviC _
  | .rrc | .lxiD _ | .inxD | .inrD | .dcrD | .mviD _ | .ral | .dadD | .ldaxD | .dcxD | .inrE | .dcrE | .mviE _
  | .rar | .lxiH _ | .inxH | .inrH | .dcrH | .mviH _ | .daa | .dadH | .lhld _ | .dcxH | .inrL | .dcrL | .mviL _
  | .cma | .lxiSP _ | .inxSP | .stc | .dadSP | .lda _ | .dcxSP | .inrA | .dcrA | .mviA _ | .cmc | .movBB
  | .movBC | .movBD | .movBE | .movBH | .movBL | .movBM | .movBA | .movCB | .movCC | .movCD | .movCE | .movCH
  | .movCL | .movCM | .movCA | .movDB | .movDC | .movDD | .movDE | .movDH | .movDL | .movDM | .movDA | .movEB
  | .movEC | .movED | .movEE | .movEH | .movEL | .movEM | .movEA | .movHB | .movHC | .movHD | .movHE | .movHH
  | .movHL | .movHM | .movHA | .movLB | .movLC | .movLD | .movLE | .movLH | .movLL | .movLM | .movLA | .hlt
  | .movAB | .movAC | .movAD | .movAE | .movAH | .movAL | .movAM | .movAA | .addB | .addC | .addD | .addE
  | .addH | .addL | .addM | .addA | .adcB | .adcC | .adcD | .adcE | .adcH | .adcL | .adcM | .adcA | .subB
  | .subC | .subD | .subE | .subH | .subL | .subM | .subA | .sbbB | .sbbC | .sbbD | .sbbE | .sbbH | .sbbL
  | .sbbM | .sbbA | .anaB | .anaC | .anaD | .anaE | .anaH | .anaL | .anaM | .anaA | .xraB | .xraC | .xraD
  | .xraE | .xraH | .xraL | .xraM | .xraA | .oraB | .oraC | .oraD | .oraE | .oraH | .oraL | .oraM | .oraA
  | .cmpB | .cmpC | .cmpD | .cmpE | .cmpH | .cmpL | .cmpM | .cmpA | .rnz | .popB | .jnz _ | .jmp _ | .adi _
  | .rz | .ret | .jz _ | .aci _ | .rnc | .popD | .jnc _ | .outPort _ | .sui _ | .rc | .jc _ | .inPort _
  | .sbi _ | .rpo | .popH | .jpo _ | .ani _ | .rpe | .pchl | .jpe _ | .xchg | .xri _ | .rp | .popPSW | .jp _
  | .di | .ori _ | .rm | .sphl | .jm _ | .ei | .cpi _ | .undefined _ => false

/-! ### Codes, lengths and costs, as the encoding rules give them -/

/-- The 3-bit register code (30_encoding.md R95). -/
def Reg.code : Reg → BitVec 3
  | .b => 0b000
  | .c => 0b001
  | .d => 0b010
  | .e => 0b011
  | .h => 0b100
  | .l => 0b101
  | .a => 0b111

/-- The 3-bit code of a register or of `M` (R95). -/
def Loc.code : Loc → BitVec 3
  | .reg r => r.code
  | .m => 0b110

/-- The pair code of LXI, INX, DCX and DAD (R96). -/
def Pair.code : Pair → BitVec 2
  | .bc => 0b00
  | .de => 0b01
  | .hl => 0b10
  | .sp => 0b11

/-- The pair code of PUSH and POP (R97). -/
def StackPair.code : StackPair → BitVec 2
  | .bc => 0b00
  | .de => 0b01
  | .hl => 0b10
  | .psw => 0b11

/-- The condition code (R101). -/
def Cond.code : Cond → BitVec 3
  | .nz => 0b000
  | .z => 0b001
  | .nc => 0b010
  | .c => 0b011
  | .po => 0b100
  | .pe => 0b101
  | .p => 0b110
  | .m => 0b111

/-- The general registers of a pair. -/
def Pair.regs : Pair → List Reg
  | .bc => [.b, .c]
  | .de => [.d, .e]
  | .hl => [.h, .l]
  | .sp => []

/-- The general registers of a pair that PUSH and POP name; `F` is no general register. -/
def StackPair.regs : StackPair → List Reg
  | .bc => [.b, .c]
  | .de => [.d, .e]
  | .hl => [.h, .l]
  | .psw => [.a]

/-- The bytes of a two-operand instruction with ALU code `ooo`: `10ooosss`, or `11ooo110` and the immediate
(R93, R94). -/
def aluBytes (ooo : BitVec 3) : Src → List Byte
  | .reg r => [0b10#2 ++ ooo ++ r.code]
  | .m => [0b10#2 ++ ooo ++ 0b110#3]
  | .imm v => [0b11#2 ++ ooo ++ 0b110#3, v]

/-- The cycles of a two-operand instruction by its operand form (42_arithmetic.md R202). -/
def Src.cycles : Src → Nat
  | .reg _ => 4
  | .m => 7
  | .imm _ => 7

/-- The default cycle counts of an instruction where its condition holds and where it does not
(70_reset_and_hazards.md R480). -/
def CostsTaken (i : Instr) (taken notTaken : Nat) : Prop :=
  ∀ op operands, encode i = op :: operands →
    defaultCycles op true = taken ∧ defaultCycles op false = notTaken

/-- The default cycle count of an instruction with one count. -/
def Costs (i : Instr) (n : Nat) : Prop := CostsTaken i n n

/-! ### The arithmetic of the spec, in integers -/

/-- `A`, `CY`, `AC`, `Z`, `S`, `P` after an addition to `A` (42_arithmetic.md R200). -/
def AddsToA (s t : State) (v : Byte) (cin : Nat) : Prop :=
  t.a.toNat = (s.a.toNat + v.toNat + cin) % 256 ∧
    (t.f.cy = true ↔ 255 < s.a.toNat + v.toNat + cin) ∧
    (t.f.ac = true ↔ 15 < s.a.toNat % 16 + v.toNat % 16 + cin) ∧ ZspOf t.f t.a ∧ UnusedSame s.f t.f

/-- The bit that a borrow out of bit 3 leaves in `AC` under a value of `P_SUB_AUX` (40_dispatch_flags_pairs.md R139). -/
def auxOfBorrow (reading : SubAux) (borrow : Bool) : Bool :=
  match reading with
  | .borrow => borrow
  | .inverted => !borrow

/-- A subtraction from `A` with result `r`, and the flags it leaves (42_arithmetic.md R201), whatever `P_SUB_AUX` is. -/
def SubtractsFromA (s t : State) (v : Byte) (bin : Nat) (r : Byte) : Prop :=
  (r.toNat : Int) = ((s.a.toNat : Int) - v.toNat - bin) % 256 ∧
    (t.f.cy = true ↔ s.a.toNat < v.toNat + bin) ∧
    t.f.ac = auxOfBorrow Config.subAux (decide (s.a.toNat % 16 < v.toNat % 16 + bin)) ∧
    ZspOf t.f r ∧ UnusedSame s.f t.f

/-- The interrupt-enabled and halted flags, the port bridge and the count of free values are as before. -/
def RestSame (s t : State) : Prop := ControlSame s t ∧ DeviceSame s t

/-- Where `PC` goes directly, for the instructions that set it directly (40_dispatch_flags_pairs.md R132). -/
def directTarget (i : Instr) (s : State) : Option Word :=
  match i with
  | .rnz => if !s.f.z then some (joinBytes (s.readByte (s.sp + 1)) (s.readByte s.sp)) else none
  | .jnz addr => if !s.f.z then some addr else none
  | .jmp addr => some addr
  | .cnz addr => if !s.f.z then some addr else none
  | .rst0 => some 0x0000
  | .rz => if s.f.z then some (joinBytes (s.readByte (s.sp + 1)) (s.readByte s.sp)) else none
  | .ret => some (joinBytes (s.readByte (s.sp + 1)) (s.readByte s.sp))
  | .jz addr => if s.f.z then some addr else none
  | .cz addr => if s.f.z then some addr else none
  | .call addr => some addr
  | .rst1 => some 0x0008
  | .rnc => if !s.f.cy then some (joinBytes (s.readByte (s.sp + 1)) (s.readByte s.sp)) else none
  | .jnc addr => if !s.f.cy then some addr else none
  | .cnc addr => if !s.f.cy then some addr else none
  | .rst2 => some 0x0010
  | .rc => if s.f.cy then some (joinBytes (s.readByte (s.sp + 1)) (s.readByte s.sp)) else none
  | .jc addr => if s.f.cy then some addr else none
  | .cc addr => if s.f.cy then some addr else none
  | .rst3 => some 0x0018
  | .rpo => if !s.f.p then some (joinBytes (s.readByte (s.sp + 1)) (s.readByte s.sp)) else none
  | .jpo addr => if !s.f.p then some addr else none
  | .cpo addr => if !s.f.p then some addr else none
  | .rst4 => some 0x0020
  | .rpe => if s.f.p then some (joinBytes (s.readByte (s.sp + 1)) (s.readByte s.sp)) else none
  | .pchl => some (joinBytes s.h s.l)
  | .jpe addr => if s.f.p then some addr else none
  | .cpe addr => if s.f.p then some addr else none
  | .rst5 => some 0x0028
  | .rp => if !s.f.s then some (joinBytes (s.readByte (s.sp + 1)) (s.readByte s.sp)) else none
  | .jp addr => if !s.f.s then some addr else none
  | .cp addr => if !s.f.s then some addr else none
  | .rst6 => some 0x0030
  | .rm => if s.f.s then some (joinBytes (s.readByte (s.sp + 1)) (s.readByte s.sp)) else none
  | .jm addr => if s.f.s then some addr else none
  | .cm addr => if s.f.s then some addr else none
  | .rst7 => some 0x0038
  | .nop | .lxiB _ | .staxB | .inxB | .inrB | .dcrB | .mviB _ | .rlc | .dadB | .ldaxB | .dcxB | .inrC | .dcrC
  | .mviC _ | .rrc | .lxiD _ | .staxD | .inxD | .inrD | .dcrD | .mviD _ | .ral | .dadD | .ldaxD | .dcxD | .inrE
  | .dcrE | .mviE _ | .rar | .lxiH _ | .shld _ | .inxH | .inrH | .dcrH | .mviH _ | .daa | .dadH | .lhld _
  | .dcxH | .inrL | .dcrL | .mviL _ | .cma | .lxiSP _ | .sta _ | .inxSP | .inrM | .dcrM | .mviM _ | .stc
  | .dadSP | .lda _ | .dcxSP | .inrA | .dcrA | .mviA _ | .cmc | .movBB | .movBC | .movBD | .movBE | .movBH
  | .movBL | .movBM | .movBA | .movCB | .movCC | .movCD | .movCE | .movCH | .movCL | .movCM | .movCA | .movDB
  | .movDC | .movDD | .movDE | .movDH | .movDL | .movDM | .movDA | .movEB | .movEC | .movED | .movEE | .movEH
  | .movEL | .movEM | .movEA | .movHB | .movHC | .movHD | .movHE | .movHH | .movHL | .movHM | .movHA | .movLB
  | .movLC | .movLD | .movLE | .movLH | .movLL | .movLM | .movLA | .movMB | .movMC | .movMD | .movME | .movMH
  | .movML | .hlt | .movMA | .movAB | .movAC | .movAD | .movAE | .movAH | .movAL | .movAM | .movAA | .addB
  | .addC | .addD | .addE | .addH | .addL | .addM | .addA | .adcB | .adcC | .adcD | .adcE | .adcH | .adcL
  | .adcM | .adcA | .subB | .subC | .subD | .subE | .subH | .subL | .subM | .subA | .sbbB | .sbbC | .sbbD
  | .sbbE | .sbbH | .sbbL | .sbbM | .sbbA | .anaB | .anaC | .anaD | .anaE | .anaH | .anaL | .anaM | .anaA
  | .xraB | .xraC | .xraD | .xraE | .xraH | .xraL | .xraM | .xraA | .oraB | .oraC | .oraD | .oraE | .oraH
  | .oraL | .oraM | .oraA | .cmpB | .cmpC | .cmpD | .cmpE | .cmpH | .cmpL | .cmpM | .cmpA | .popB | .pushB
  | .adi _ | .aci _ | .popD | .outPort _ | .pushD | .sui _ | .inPort _ | .sbi _ | .popH | .xthl | .pushH
  | .ani _ | .xchg | .xri _ | .popPSW | .di | .pushPSW | .ori _ | .sphl | .ei | .cpi _ | .undefined _ => none

end Sys2Proof.Machine
end

