-- ==== Sys2Proof/Certificates/Slice0/Obligations.lean ====
section
/-! DEFINITION. Obligations.lean: the statements for the provers, from the numbered rules of spec/. `Form.…` runs over the
constructors of a family (Machine/Forms.lean); the frames `RegsSameBut`, `MemorySame`, `RestSame` and their like are
spelled out in Safety.lean. -/

open Sys2Proof Sys2Proof.Machine

/-- Reset (10_state.md R45): every element of the aggregate is zero. The table's "then the loaded image" is `LoadImageWritesAllOrNothing`. -/
def Obligations.ResetIsAllZero : Prop :=
  (∀ r : Reg, State.reset.reg r = 0) ∧ State.reset.f.toByte = 0 ∧ State.reset.pc = 0 ∧ State.reset.sp = 0 ∧
    State.reset.ie = false ∧ State.reset.halt = false ∧ (∀ x : Word, State.reset.readByte x = 0) ∧
    State.reset.p1 = 0 ∧ State.reset.p2 = 0 ∧ State.reset.srHi = 0 ∧ State.reset.srLo = 0 ∧
    State.reset.srOff = 0 ∧ State.reset.snd3 = 0 ∧ State.reset.snd5 = 0

/-- The invariant holds at reset. The canonical form is the model's own representation of `MEM`. -/
def Obligations.ResetMeetsInvariant : Prop :=
  State.reset.Inv

/-- Every step keeps the invariant, from every state that meets it, over all instructions. The canonical form is the model's own representation of `MEM`. -/
def Obligations.StepKeepsInvariant : Prop :=
  ∀ s t : State, s.Inv → step s = .next t → t.Inv

/-- The interactions of 60_exceptions.md R426: steps, deliveries, input changes, sound events and the image load, and whole ticks of the scheduler (R422), keep the invariant too. -/
def Obligations.HostActionsKeepInvariant : Prop :=
  (∀ (act : HostAction) (s t : State), s.Inv → hostAct act s = .next t → t.Inv) ∧
    (∀ (base : Nat) (image : List Byte) (s t : State), s.Inv → loadImage base image s = .loaded t → t.Inv) ∧
    ∀ (cost : CycleTable) (half1 half2 carried left : Int) (turns : Nat) (s t : State),
      s.Inv → tick cost half1 half2 carried turns s = .done t left → t.Inv

/-- The canonical form is one form: a memory is determined by its 65536 bytes. -/
def Obligations.EqualBytesEqualMemory : Prop :=
  ∀ m n : Memory, m.wf = true → n.wf = true → (∀ x : Word, m.read x.toNat = n.read x.toNat) → m = n

/-- Fetch then execute (40_dispatch_flags_pairs.md section 1). That `step` does nothing while `HALT` = 1 is the model's choice (log 10): the spec says that the host issues no step then. Nothing else stands around `exec`: `exec` itself writes `PC`. -/
def Obligations.StepRunsDecodedInstruction : Prop :=
  (∀ (s : State) (i : Instr) (rest : List Byte),
      decode [s.readByte s.pc, s.readByte (s.pc + 1), s.readByte (s.pc + 2)] = .ok (i, rest) →
      instructionStep s = exec i s ∧ (s.halt = false → step s = exec i s)) ∧
    ∀ s : State, s.halt = true → step s = .next s

/-- The opcode map is total: with `StepRunsDecodedInstruction`, every step of a core that is not halted is an `exec`. The twelve undefined bytes have no length in the spec; that the decoder and the encoder take one byte for them is the model's choice (log 12). -/
def Obligations.FetchAlwaysDecodes : Prop :=
  ∀ op b1 b2 : Byte, (decodeOp op b1 b2).wellFormed = true ∧
    ∃ rest : List Byte, decode [op, b1, b2] = .ok (decodeOp op b1 b2, rest)

/-- Words written out from the encoding rules; `0x01`, `0xC6` and `0xCD` are those the source gives. -/
def Obligations.AttestedWordsDecode : Prop :=
  decode [0x01, 0xFF, 0x12] = .ok (.lxiB 0x12FF, []) ∧ decode [0xC6, 0x28] = .ok (.adi 0x28, []) ∧
    decode [0xCD, 0xFE, 0xEF] = .ok (.call 0xEFFE, []) ∧ decode [0b01110110] = .ok (.hlt, []) ∧
    decode [0b01111000] = .ok (.movAB, []) ∧ decode [0xD9] = .ok (.undefined 0xD9, [])

/-- Round trip over all 245 constructors, every operand at every value. The twelve undefined bytes have no length in the spec; that the decoder and the encoder take one byte for them is the model's choice (log 12). -/
def Obligations.DecodeOfEncode : Prop :=
  ∀ (i : Instr) (rest : List Byte), i.wellFormed = true → decode (encode i ++ rest) = .ok (i, rest)

/-- The other direction: no byte of an instruction is ignored and no two byte strings are one instruction. The twelve undefined bytes have no length in the spec; that the decoder and the encoder take one byte for them is the model's choice (log 12). -/
def Obligations.EncodeOfDecode : Prop :=
  ∀ (bytes rest : List Byte) (i : Instr), decode bytes = .ok (i, rest) →
    i.wellFormed = true ∧ encode i ++ rest = bytes

/-- 30_encoding.md R92. The twelve undefined bytes have no length: they fault. -/
def Obligations.LengthIsByOpcode : Prop :=
  (∀ (op : Byte) (bytes rest : List Byte) (i : Instr), decode (op :: bytes) = .ok (i, rest) →
    op ∉ ([0x08, 0x10, 0x18, 0x20, 0x28, 0x30, 0x38, 0xCB, 0xD9, 0xDD, 0xED, 0xFD] : List Byte) →
    bytes.length + 1 = rest.length +
      (if op ∈ ([0x01, 0x11, 0x21, 0x31, 0x22, 0x2A, 0x32, 0x3A, 0xC3, 0xCD, 0xC2, 0xCA, 0xD2, 0xDA, 0xE2, 0xEA,
          0xF2, 0xFA, 0xC4, 0xCC, 0xD4, 0xDC, 0xE4, 0xEC, 0xF4, 0xFC] : List Byte) then 3
       else if op ∈ ([0x06, 0x0E, 0x16, 0x1E, 0x26, 0x2E, 0x36, 0x3E, 0xC6, 0xCE, 0xD6, 0xDE, 0xE6, 0xEE, 0xF6, 0xFE,
          0xD3, 0xDB] : List Byte) then 2 else 1)) ∧
    ∀ op ∈ ([0x08, 0x10, 0x18, 0x20, 0x28, 0x30, 0x38, 0xCB, 0xD9, 0xDD, 0xED, 0xFD] : List Byte),
      ∀ (b1 b2 : Byte) (s : State), exec (decodeOp op b1 b2) s = .fault (.unimplementedOpcode op)

/-- 48_control.md R375, 60_exceptions.md R400. That these twelve bytes are the ones and that the fault carries the byte are the spec's decisions D5 and D6. -/
def Obligations.UndefinedOpcodesStop : Prop :=
  ∀ op ∈ ([0x08, 0x10, 0x18, 0x20, 0x28, 0x30, 0x38, 0xCB, 0xD9, 0xDD, 0xED, 0xFD] : List Byte),
    (∀ b1 b2 : Byte, decodeOp op b1 b2 = .undefined op) ∧
    (∀ s : State, exec (.undefined op) s = .fault (.unimplementedOpcode op)) ∧
    ∀ s : State, s.halt = false → s.readByte s.pc = op → step s = .fault (.unimplementedOpcode op)

/-- No other instruction can raise anything (60_exceptions.md section 1; the spec marks the rule as derived). That CMA, CMC, STC, SPHL and RST n complete is the spec's decision D4, its default of `P_UNNAMED_OPS`, which the model takes (log 6, DESIGN CHOICE, unsafe). -/
def Obligations.OnlyUndefinedOpcodesStop : Prop :=
  ∀ (i : Instr) (s : State), (∃ t, exec i s = .next t) ∨
    ∃ op, i = .undefined op ∧ exec i s = .fault (.unimplementedOpcode op)

/-- 41_data_transfer.md R160 (constructors movBB to movAA, the 49 forms). -/
def Obligations.MovRegisterCopies : Prop :=
  (∀ b1 b2 : Byte, decodeOp 0x76 b1 b2 = .hlt) ∧
    ∀ x y : Reg, encode (Form.movReg x y) = [0b01#2 ++ x.code ++ y.code] ∧ Costs (Form.movReg x y) 5 ∧
    ∀ s : State, ∃ t, exec (Form.movReg x y) s = .next t ∧ t.reg x = s.reg y ∧ t.pc = s.pc + 1 ∧
      RegsSameBut [x] s t ∧ t.sp = s.sp ∧ MemorySame s t ∧ t.f = s.f ∧ RestSame s t

/-- 41_data_transfer.md R161 (movBM movCM movDM movEM movHM movLM movAM). -/
def Obligations.MovFromMemoryLoads : Prop :=
  ∀ x : Reg, encode (Form.movLoad x) = [0b01#2 ++ x.code ++ 0b110#3] ∧ Costs (Form.movLoad x) 7 ∧
    ∀ s : State, ∃ t, exec (Form.movLoad x) s = .next t ∧ t.reg x = s.readByte (joinBytes s.h s.l) ∧
      t.pc = s.pc + 1 ∧ RegsSameBut [x] s t ∧ t.sp = s.sp ∧ MemorySame s t ∧ t.f = s.f ∧ RestSame s t

/-- 41_data_transfer.md R162 (movMB movMC movMD movME movMH movML movMA). -/
def Obligations.MovToMemoryStores : Prop :=
  ∀ r : Reg, encode (Form.movStore r) = [0b01110#5 ++ r.code] ∧ Costs (Form.movStore r) 7 ∧
    ∀ s : State, ∃ t, exec (Form.movStore r) s = .next t ∧ t.readByte (joinBytes s.h s.l) = s.reg r ∧
      MemorySameBut [joinBytes s.h s.l] s t ∧ t.pc = s.pc + 1 ∧ RegsSameBut [] s t ∧ t.sp = s.sp ∧ t.f = s.f ∧ RestSame s t

/-- 41_data_transfer.md R163 (mviB mviC mviD mviE mviH mviL mviA), R164 (mviM). -/
def Obligations.MoveImmediate : Prop :=
  (∀ (x : Reg) (v : Byte), encode (Form.mvi (.reg x) v) = [0b00#2 ++ x.code ++ 0b110#3, v] ∧
      Costs (Form.mvi (.reg x) v) 7 ∧
      ∀ s : State, ∃ t, exec (Form.mvi (.reg x) v) s = .next t ∧ t.reg x = v ∧ t.pc = s.pc + 2 ∧
        RegsSameBut [x] s t ∧ t.sp = s.sp ∧ MemorySame s t ∧ t.f = s.f ∧ RestSame s t) ∧
    ∀ v : Byte, encode (.mviM v) = [0x36, v] ∧ Costs (.mviM v) 10 ∧
      ∀ s : State, ∃ t, exec (.mviM v) s = .next t ∧ t.readByte (joinBytes s.h s.l) = v ∧
        MemorySameBut [joinBytes s.h s.l] s t ∧ t.pc = s.pc + 2 ∧ RegsSameBut [] s t ∧ t.sp = s.sp ∧
        t.f = s.f ∧ RestSame s t

/-- 41_data_transfer.md R165 (lxiB lxiD lxiH lxiSP). -/
def Obligations.LoadPairImmediate : Prop :=
  ∀ (p : Pair) (v : Word), encode (Form.lxi p v) = [0b00#2 ++ p.code ++ 0b0001#4, loByte v, hiByte v] ∧
    Costs (Form.lxi p v) 10 ∧
    ∀ s : State, ∃ t, exec (Form.lxi p v) s = .next t ∧
      (match p with
        | .bc => t.b = hiByte v ∧ t.c = loByte v
        | .de => t.d = hiByte v ∧ t.e = loByte v
        | .hl => t.h = hiByte v ∧ t.l = loByte v
        | .sp => t.sp = v) ∧
      (p ≠ .sp → t.sp = s.sp) ∧ RegsSameBut p.regs s t ∧ t.pc = s.pc + 3 ∧ MemorySame s t ∧ t.f = s.f ∧ RestSame s t

/-- 41_data_transfer.md R166 (lda), R168 (ldaxB, ldaxD). -/
def Obligations.LoadAccumulator : Prop :=
  (∀ addr : Word, encode (.lda addr) = [0x3A, loByte addr, hiByte addr] ∧ Costs (.lda addr) 13) ∧
    (∀ b1 b2 : Byte, decodeOp 0x2A b1 b2 = .lhld (joinBytes b2 b1) ∧ decodeOp 0x3A b1 b2 = .lda (joinBytes b2 b1)) ∧
    encode .ldaxB = [0x0A] ∧ Costs .ldaxB 7 ∧ encode .ldaxD = [0x1A] ∧ Costs .ldaxD 7 ∧
    ∀ s : State,
      (∀ addr : Word, ∃ t, exec (.lda addr) s = .next t ∧ t.a = s.readByte addr ∧ t.pc = s.pc + 3 ∧
        RegsSameBut [.a] s t ∧ t.sp = s.sp ∧ MemorySame s t ∧ t.f = s.f ∧ RestSame s t) ∧
      (∃ t, exec .ldaxB s = .next t ∧ t.a = s.readByte (joinBytes s.b s.c) ∧ t.pc = s.pc + 1 ∧
        RegsSameBut [.a] s t ∧ t.sp = s.sp ∧ MemorySame s t ∧ t.f = s.f ∧ RestSame s t) ∧
      ∃ t, exec .ldaxD s = .next t ∧ t.a = s.readByte (joinBytes s.d s.e) ∧ t.pc = s.pc + 1 ∧
        RegsSameBut [.a] s t ∧ t.sp = s.sp ∧ MemorySame s t ∧ t.f = s.f ∧ RestSame s t

/-- 41_data_transfer.md R167 (sta), R169 (staxB, staxD). -/
def Obligations.StoreAccumulator : Prop :=
  (∀ addr : Word, encode (.sta addr) = [0x32, loByte addr, hiByte addr] ∧ Costs (.sta addr) 13) ∧
    (∀ b1 b2 : Byte, decodeOp 0x22 b1 b2 = .shld (joinBytes b2 b1) ∧ decodeOp 0x32 b1 b2 = .sta (joinBytes b2 b1)) ∧
    encode .staxB = [0x02] ∧ Costs .staxB 7 ∧ encode .staxD = [0x12] ∧ Costs .staxD 7 ∧
    ∀ s : State,
      (∀ addr : Word, ∃ t, exec (.sta addr) s = .next t ∧ t.readByte addr = s.a ∧ MemorySameBut [addr] s t ∧
        t.pc = s.pc + 3 ∧ RegsSameBut [] s t ∧ t.sp = s.sp ∧ t.f = s.f ∧ RestSame s t) ∧
      (∃ t, exec .staxB s = .next t ∧ t.readByte (joinBytes s.b s.c) = s.a ∧
        MemorySameBut [joinBytes s.b s.c] s t ∧ t.pc = s.pc + 1 ∧ RegsSameBut [] s t ∧ t.sp = s.sp ∧
        t.f = s.f ∧ RestSame s t) ∧
      ∃ t, exec .staxD s = .next t ∧ t.readByte (joinBytes s.d s.e) = s.a ∧
        MemorySameBut [joinBytes s.d s.e] s t ∧ t.pc = s.pc + 1 ∧ RegsSameBut [] s t ∧ t.sp = s.sp ∧
        t.f = s.f ∧ RestSame s t

/-- 41_data_transfer.md R170 (lhld), R171 (shld). -/
def Obligations.LoadAndStoreHL : Prop :=
  ∀ addr : Word, encode (.lhld addr) = [0x2A, loByte addr, hiByte addr] ∧ Costs (.lhld addr) 16 ∧
    encode (.shld addr) = [0x22, loByte addr, hiByte addr] ∧ Costs (.shld addr) 16 ∧
    ∀ s : State,
      (∃ t, exec (.lhld addr) s = .next t ∧ t.l = s.readByte addr ∧ t.h = s.readByte (addr + 1) ∧
        t.pc = s.pc + 3 ∧ RegsSameBut [.h, .l] s t ∧ t.sp = s.sp ∧ MemorySame s t ∧ t.f = s.f ∧ RestSame s t) ∧
      ∃ t, exec (.shld addr) s = .next t ∧ t.readByte addr = s.l ∧ t.readByte (addr + 1) = s.h ∧
        MemorySameBut [addr, addr + 1] s t ∧ t.pc = s.pc + 3 ∧ RegsSameBut [] s t ∧ t.sp = s.sp ∧
        t.f = s.f ∧ RestSame s t

/-- 41_data_transfer.md R172 (xchg), R173 (xthl). -/
def Obligations.ExchangesSwap : Prop :=
  encode .xchg = [0xEB] ∧ Costs .xchg 4 ∧ encode .xthl = [0xE3] ∧ Costs .xthl 18 ∧
    ∀ s : State,
      (∃ t, exec .xchg s = .next t ∧ t.h = s.d ∧ t.l = s.e ∧ t.d = s.h ∧ t.e = s.l ∧ t.pc = s.pc + 1 ∧
        RegsSameBut [.d, .e, .h, .l] s t ∧ t.sp = s.sp ∧ MemorySame s t ∧ t.f = s.f ∧ RestSame s t) ∧
      ∃ t, exec .xthl s = .next t ∧ t.l = s.readByte s.sp ∧ t.h = s.readByte (s.sp + 1) ∧
        t.readByte s.sp = s.l ∧ t.readByte (s.sp + 1) = s.h ∧ MemorySameBut [s.sp, s.sp + 1] s t ∧
        t.pc = s.pc + 1 ∧ RegsSameBut [.h, .l] s t ∧ t.sp = s.sp ∧ t.f = s.f ∧ RestSame s t

/-- 42_arithmetic.md R200, R205 to R210 (addB to addA, addM, adi, adcB to adcA, adcM, aci). `s.src x` is the operand of R202. -/
def Obligations.AddInstructionsAdd : Prop :=
  ∀ x : Src, encode (Form.add x) = aluBytes 0b000 x ∧ Costs (Form.add x) x.cycles ∧
    encode (Form.adc x) = aluBytes 0b001 x ∧ Costs (Form.adc x) x.cycles ∧
    ∀ s : State,
      (∃ t, exec (Form.add x) s = .next t ∧ AddsToA s t (s.src x) 0 ∧ t.pc = s.pc + BitVec.ofNat 16 x.length ∧
        RegsSameBut [.a] s t ∧ t.sp = s.sp ∧ MemorySame s t ∧ RestSame s t) ∧
      ∃ t, exec (Form.adc x) s = .next t ∧ AddsToA s t (s.src x) s.f.cy.toNat ∧ t.pc = s.pc + BitVec.ofNat 16 x.length ∧
        RegsSameBut [.a] s t ∧ t.sp = s.sp ∧ MemorySame s t ∧ RestSame s t

/-- 42_arithmetic.md R201, R211 to R216 (subB to subA, subM, sui, sbbB to sbbA, sbbM, sbi). Holds for both values of `P_SUB_AUX`. That `CmpCore` is `SubCore` without the write is `CompareInstructionsCompare`. -/
def Obligations.SubtractInstructionsSubtract : Prop :=
  ∀ x : Src, encode (Form.sub x) = aluBytes 0b010 x ∧ Costs (Form.sub x) x.cycles ∧
    encode (Form.sbb x) = aluBytes 0b011 x ∧ Costs (Form.sbb x) x.cycles ∧
    (∀ s : State,
      (∃ t, exec (Form.sub x) s = .next t ∧ SubtractsFromA s t (s.src x) 0 t.a ∧ t.pc = s.pc + BitVec.ofNat 16 x.length ∧
        RegsSameBut [.a] s t ∧ t.sp = s.sp ∧ MemorySame s t ∧ RestSame s t) ∧
      ∃ t, exec (Form.sbb x) s = .next t ∧ SubtractsFromA s t (s.src x) s.f.cy.toNat t.a ∧ t.pc = s.pc + BitVec.ofNat 16 x.length ∧
        RegsSameBut [.a] s t ∧ t.sp = s.sp ∧ MemorySame s t ∧ RestSame s t) ∧
    ∀ s : State, ∃ t, exec (Form.cmp x) s = .next t ∧ t.a = s.a ∧ ∃ r, SubtractsFromA s t (s.src x) 0 r

/-- 42_arithmetic.md R217 (inrB inrC inrD inrE inrH inrL inrA), R218 (inrM). -/
def Obligations.IncrementAddsOne : Prop :=
  (∀ r : Reg, encode (Form.inr (.reg r)) = [0b00#2 ++ r.code ++ 0b100#3] ∧ Costs (Form.inr (.reg r)) 5 ∧
      ∀ s : State, ∃ t, exec (Form.inr (.reg r)) s = .next t ∧ (t.reg r).toNat = ((s.reg r).toNat + 1) % 256 ∧
        (t.f.ac = true ↔ (s.reg r).toNat % 16 = 15) ∧ ZspOf t.f (t.reg r) ∧ t.f.cy = s.f.cy ∧
        UnusedSame s.f t.f ∧ t.pc = s.pc + 1 ∧ RegsSameBut [r] s t ∧ t.sp = s.sp ∧ MemorySame s t ∧ RestSame s t) ∧
    encode .inrM = [0x34] ∧ Costs .inrM 10 ∧
    ∀ s : State, ∃ t, exec .inrM s = .next t ∧
      (t.readByte (joinBytes s.h s.l)).toNat = ((s.readByte (joinBytes s.h s.l)).toNat + 1) % 256 ∧
      (t.f.ac = true ↔ (s.readByte (joinBytes s.h s.l)).toNat % 16 = 15) ∧
      ZspOf t.f (t.readByte (joinBytes s.h s.l)) ∧ t.f.cy = s.f.cy ∧ UnusedSame s.f t.f ∧ t.pc = s.pc + 1 ∧
      RegsSameBut [] s t ∧ t.sp = s.sp ∧ MemorySameBut [joinBytes s.h s.l] s t ∧ RestSame s t

/-- 42_arithmetic.md R219 (dcrB dcrC dcrD dcrE dcrH dcrL dcrA), R220 (dcrM). Holds for both values of `P_SUB_AUX`. -/
def Obligations.DecrementSubtractsOne : Prop :=
  (∀ r : Reg, encode (Form.dcr (.reg r)) = [0b00#2 ++ r.code ++ 0b101#3] ∧ Costs (Form.dcr (.reg r)) 5 ∧
      ∀ s : State, ∃ t, exec (Form.dcr (.reg r)) s = .next t ∧ (t.reg r).toNat = ((s.reg r).toNat + 255) % 256 ∧
        t.f.ac = auxOfBorrow Config.subAux (decide ((s.reg r).toNat % 16 = 0)) ∧ ZspOf t.f (t.reg r) ∧
        t.f.cy = s.f.cy ∧ UnusedSame s.f t.f ∧ t.pc = s.pc + 1 ∧ RegsSameBut [r] s t ∧ t.sp = s.sp ∧
        MemorySame s t ∧ RestSame s t) ∧
    encode .dcrM = [0x35] ∧ Costs .dcrM 10 ∧
    ∀ s : State, ∃ t, exec .dcrM s = .next t ∧
      (t.readByte (joinBytes s.h s.l)).toNat = ((s.readByte (joinBytes s.h s.l)).toNat + 255) % 256 ∧
      t.f.ac = auxOfBorrow Config.subAux (decide ((s.readByte (joinBytes s.h s.l)).toNat % 16 = 0)) ∧
      ZspOf t.f (t.readByte (joinBytes s.h s.l)) ∧ t.f.cy = s.f.cy ∧ UnusedSame s.f t.f ∧ t.pc = s.pc + 1 ∧
      RegsSameBut [] s t ∧ t.sp = s.sp ∧ MemorySameBut [joinBytes s.h s.l] s t ∧ RestSame s t

/-- 42_arithmetic.md R221 (inxB inxD inxH inxSP), R222 (dcxB dcxD dcxH dcxSP). -/
def Obligations.PairStepsWrap : Prop :=
  ∀ p : Pair, encode (Form.inx p) = [0b00#2 ++ p.code ++ 0b0011#4] ∧ Costs (Form.inx p) 5 ∧
    encode (Form.dcx p) = [0b00#2 ++ p.code ++ 0b1011#4] ∧ Costs (Form.dcx p) 5 ∧
    ∀ s : State,
      (∃ t, exec (Form.inx p) s = .next t ∧ (t.pair p).toNat = ((s.pair p).toNat + 1) % 65536 ∧
        t.pc = s.pc + 1 ∧ RegsSameBut p.regs s t ∧ (p ≠ .sp → t.sp = s.sp) ∧ MemorySame s t ∧ t.f = s.f ∧
        RestSame s t) ∧
      ∃ t, exec (Form.dcx p) s = .next t ∧ (t.pair p).toNat = ((s.pair p).toNat + 65535) % 65536 ∧
        t.pc = s.pc + 1 ∧ RegsSameBut p.regs s t ∧ (p ≠ .sp → t.sp = s.sp) ∧ MemorySame s t ∧ t.f = s.f ∧
        RestSame s t

/-- 42_arithmetic.md R223 (dadB dadD dadH dadSP). -/
def Obligations.DadAddsPairs : Prop :=
  ∀ p : Pair, encode (Form.dad p) = [0b00#2 ++ p.code ++ 0b1001#4] ∧ Costs (Form.dad p) 10 ∧
    ∀ s : State, ∃ t, exec (Form.dad p) s = .next t ∧
      (joinBytes t.h t.l).toNat = ((joinBytes s.h s.l).toNat + (s.pair p).toNat) % 65536 ∧
      (t.f.cy = true ↔ 65535 < (joinBytes s.h s.l).toNat + (s.pair p).toNat) ∧ OnlyCarryMayChange s.f t.f ∧
      t.pc = s.pc + 1 ∧ RegsSameBut [.h, .l] s t ∧ t.sp = s.sp ∧ MemorySame s t ∧ RestSame s t

/-- 42_arithmetic.md R224 (daa). Which high nibble step two tests is the spec's open parameter (D7), and what step two adds to is its decision D8; the statement holds for both values of the parameter. -/
def Obligations.DaaAdjusts : Prop :=
  encode .daa = [0x27] ∧ Costs .daa 4 ∧
    ∀ s : State, ∃ (t : State) (a1 hi : Nat) (step1 step2 : Bool), exec .daa s = .next t ∧
      (step1 = true ↔ 9 < s.a.toNat % 16 ∨ s.f.ac = true) ∧
      a1 = (if step1 then (s.a.toNat + 6) % 256 else s.a.toNat) ∧
      hi = (match Config.daaHi with
        | .pre => s.a.toNat / 16
        | .post => a1 / 16) ∧
      (step2 = true ↔ 9 < hi ∨ s.f.cy = true) ∧
      t.a.toNat = (if step2 then (a1 + 96) % 256 else a1) ∧ t.f.ac = step1 ∧ t.f.cy = step2 ∧
      ZspOf t.f t.a ∧ UnusedSame s.f t.f ∧ t.pc = s.pc + 1 ∧ RegsSameBut [.a] s t ∧ t.sp = s.sp ∧
      MemorySame s t ∧ RestSame s t

/-- 43_logical.md R250, R252 to R254 (anaB to anaA, anaM, ani). `AC` is the spec's open parameter D11; the statement holds for every value of `Config.anaAux`. -/
def Obligations.AndInstructionsAnd : Prop :=
  ∀ x : Src, encode (Form.ana x) = aluBytes 0b100 x ∧ Costs (Form.ana x) x.cycles ∧
    ∀ s : State, ∃ t, exec (Form.ana x) s = .next t ∧ (∀ k < 8, t.a.getLsbD k = (s.a.getLsbD k && (s.src x).getLsbD k)) ∧
      ZspOf t.f t.a ∧ t.f.cy = false ∧ t.f.ac = Config.anaAux s.a (s.src x) t.a ∧ UnusedSame s.f t.f ∧
      t.pc = s.pc + BitVec.ofNat 16 x.length ∧
      RegsSameBut [.a] s t ∧ t.sp = s.sp ∧ MemorySame s t ∧ RestSame s t

/-- 43_logical.md R255 to R260 (xraB to xraA, xraM, xri, oraB to oraA, oraM, ori). That XRI and ORI clear `AC` as XRA and ORA do is the spec's decision D11. -/
def Obligations.XorAndOrInstructions : Prop :=
  ∀ x : Src, encode (Form.xra x) = aluBytes 0b101 x ∧ Costs (Form.xra x) x.cycles ∧
    encode (Form.ora x) = aluBytes 0b110 x ∧ Costs (Form.ora x) x.cycles ∧
    ∀ s : State,
      (∃ t, exec (Form.xra x) s = .next t ∧
        (∀ k < 8, t.a.getLsbD k = (s.a.getLsbD k ^^ (s.src x).getLsbD k)) ∧
        ZspOf t.f t.a ∧ t.f.cy = false ∧ t.f.ac = false ∧ UnusedSame s.f t.f ∧ t.pc = s.pc + BitVec.ofNat 16 x.length ∧
        RegsSameBut [.a] s t ∧ t.sp = s.sp ∧ MemorySame s t ∧ RestSame s t) ∧
      ∃ t, exec (Form.ora x) s = .next t ∧
        (∀ k < 8, t.a.getLsbD k = (s.a.getLsbD k || (s.src x).getLsbD k)) ∧
        ZspOf t.f t.a ∧ t.f.cy = false ∧ t.f.ac = false ∧ UnusedSame s.f t.f ∧ t.pc = s.pc + BitVec.ofNat 16 x.length ∧
        RegsSameBut [.a] s t ∧ t.sp = s.sp ∧ MemorySame s t ∧ RestSame s t

/-- 43_logical.md R251, R261 to R263 (cmpB to cmpA, cmpM, cpi). That `AC` is written as by SUB is the spec's decision D12; the statement holds for both values of `P_SUB_AUX`. -/
def Obligations.CompareInstructionsCompare : Prop :=
  ∀ x : Src, encode (Form.cmp x) = aluBytes 0b111 x ∧ Costs (Form.cmp x) x.cycles ∧
    ∀ s : State, ∃ (t : State) (r : Byte), exec (Form.cmp x) s = .next t ∧ SubtractsFromA s t (s.src x) 0 r ∧
      (t.f.z = true ↔ s.a = s.src x) ∧ (t.f.cy = true ↔ s.a.toNat < (s.src x).toNat) ∧
      t.pc = s.pc + BitVec.ofNat 16 x.length ∧ RegsSameBut [] s t ∧ t.sp = s.sp ∧ MemorySame s t ∧
      RestSame s t

/-- 43_logical.md R264 (cma), R265 (stc), R266 (cmc), 46_stack.md R345 (sphl). That they execute is the spec's decision D4, its default of `P_UNNAMED_OPS`, which the model takes (log 6). -/
def Obligations.UnnamedOneByteInstructionsExecute : Prop :=
  encode .cma = [0x2F] ∧ Costs .cma 4 ∧ encode .stc = [0x37] ∧ Costs .stc 4 ∧ encode .cmc = [0x3F] ∧ Costs .cmc 4 ∧
    encode .sphl = [0xF9] ∧ Costs .sphl 5 ∧
    ∀ s : State,
      (∃ t, exec .cma s = .next t ∧ (∀ k < 8, t.a.getLsbD k = !s.a.getLsbD k) ∧ t.f = s.f ∧ t.pc = s.pc + 1 ∧
        RegsSameBut [.a] s t ∧ t.sp = s.sp ∧ MemorySame s t ∧ RestSame s t) ∧
      (∃ t, exec .stc s = .next t ∧ t.f.cy = true ∧ OnlyCarryMayChange s.f t.f ∧ t.pc = s.pc + 1 ∧
        RegsSameBut [] s t ∧ t.sp = s.sp ∧ MemorySame s t ∧ RestSame s t) ∧
      (∃ t, exec .cmc s = .next t ∧ t.f.cy = !s.f.cy ∧ OnlyCarryMayChange s.f t.f ∧ t.pc = s.pc + 1 ∧
        RegsSameBut [] s t ∧ t.sp = s.sp ∧ MemorySame s t ∧ RestSame s t) ∧
      ∃ t, exec .sphl s = .next t ∧ t.sp = joinBytes s.h s.l ∧ t.pc = s.pc + 1 ∧ RegsSameBut [] s t ∧
        t.f = s.f ∧ MemorySame s t ∧ RestSame s t

/-- 44_rotate.md R290 (rlc), R291 (rrc), R292 (ral), R293 (rar). -/
def Obligations.RotatesWriteOnlyCarry : Prop :=
  encode .rlc = [0x07] ∧ Costs .rlc 4 ∧ encode .rrc = [0x0F] ∧ Costs .rrc 4 ∧
    encode .ral = [0x17] ∧ Costs .ral 4 ∧ encode .rar = [0x1F] ∧ Costs .rar 4 ∧
    ∀ s : State,
      (∃ t, exec .rlc s = .next t ∧ t.a.toNat = (2 * s.a.toNat + s.a.toNat / 128) % 256 ∧
        (t.f.cy = true ↔ 128 ≤ s.a.toNat) ∧ OnlyCarryMayChange s.f t.f ∧ t.pc = s.pc + 1 ∧
        RegsSameBut [.a] s t ∧ t.sp = s.sp ∧ MemorySame s t ∧ RestSame s t) ∧
      (∃ t, exec .rrc s = .next t ∧ t.a.toNat = s.a.toNat / 2 + 128 * (s.a.toNat % 2) ∧
        (t.f.cy = true ↔ s.a.toNat % 2 = 1) ∧ OnlyCarryMayChange s.f t.f ∧ t.pc = s.pc + 1 ∧
        RegsSameBut [.a] s t ∧ t.sp = s.sp ∧ MemorySame s t ∧ RestSame s t) ∧
      (∃ t, exec .ral s = .next t ∧ t.a.toNat = (2 * s.a.toNat + s.f.cy.toNat) % 256 ∧
        (t.f.cy = true ↔ 128 ≤ s.a.toNat) ∧ OnlyCarryMayChange s.f t.f ∧ t.pc = s.pc + 1 ∧
        RegsSameBut [.a] s t ∧ t.sp = s.sp ∧ MemorySame s t ∧ RestSame s t) ∧
      ∃ t, exec .rar s = .next t ∧ t.a.toNat = s.a.toNat / 2 + 128 * s.f.cy.toNat ∧
        (t.f.cy = true ↔ s.a.toNat % 2 = 1) ∧ OnlyCarryMayChange s.f t.f ∧ t.pc = s.pc + 1 ∧
        RegsSameBut [.a] s t ∧ t.sp = s.sp ∧ MemorySame s t ∧ RestSame s t

/-- 45_branch.md R300 (jmp), R301 (jnz jz jnc jc jpo jpe jp jm), R306 (pchl). `k.holds` is 40_dispatch_flags_pairs.md R153, spelled out by `ConditionsTestOneFlag`. -/
def Obligations.JumpsSetPc : Prop :=
  (∀ addr : Word, encode (.jmp addr) = [0xC3, loByte addr, hiByte addr] ∧ Costs (.jmp addr) 10 ∧
      ∀ s : State, ∃ t, exec (.jmp addr) s = .next t ∧ t.pc = addr ∧ RegsSameBut [] s t ∧ t.f = s.f ∧
        t.sp = s.sp ∧ MemorySame s t ∧ RestSame s t) ∧
    (∀ (k : Cond) (addr : Word),
      encode (Form.jcond k addr) = [0b11#2 ++ k.code ++ 0b010#3, loByte addr, hiByte addr] ∧
      CostsTaken (Form.jcond k addr) 10 10 ∧
      ∀ s : State, ∃ t, exec (Form.jcond k addr) s = .next t ∧
        t.pc = (if k.holds s.f then addr else s.pc + 3) ∧ RegsSameBut [] s t ∧ t.f = s.f ∧ t.sp = s.sp ∧
        MemorySame s t ∧ RestSame s t) ∧
    encode .pchl = [0xE9] ∧ Costs .pchl 5 ∧
    ∀ s : State, ∃ t, exec .pchl s = .next t ∧ t.pc = joinBytes s.h s.l ∧ RegsSameBut [] s t ∧ t.f = s.f ∧
      t.sp = s.sp ∧ MemorySame s t ∧ RestSame s t

/-- 45_branch.md R302 (call), R303 (cnz cz cnc cc cpo cpe cp cm). -/
def Obligations.CallsPushTheReturnAddress : Prop :=
  (∀ addr : Word, encode (.call addr) = [0xCD, loByte addr, hiByte addr] ∧ Costs (.call addr) 17 ∧
      ∀ s : State, ∃ t, exec (.call addr) s = .next t ∧ t.pc = addr ∧ t.sp = s.sp - 2 ∧
        t.readByte (s.sp - 1) = hiByte (s.pc + 3) ∧ t.readByte (s.sp - 2) = loByte (s.pc + 3) ∧
        MemorySameBut [s.sp - 1, s.sp - 2] s t ∧
        RegsSameBut [] s t ∧ t.f = s.f ∧ RestSame s t) ∧
    ∀ (k : Cond) (addr : Word),
      encode (Form.ccond k addr) = [0b11#2 ++ k.code ++ 0b100#3, loByte addr, hiByte addr] ∧
      CostsTaken (Form.ccond k addr) 17 11 ∧
      ∀ s : State, ∃ t, exec (Form.ccond k addr) s = .next t ∧
        (if k.holds s.f then
          t.pc = addr ∧ t.sp = s.sp - 2 ∧
          t.readByte (s.sp - 1) = hiByte (s.pc + 3) ∧ t.readByte (s.sp - 2) = loByte (s.pc + 3) ∧
          MemorySameBut [s.sp - 1, s.sp - 2] s t
         else t.pc = s.pc + 3 ∧ t.sp = s.sp ∧ MemorySame s t) ∧
        RegsSameBut [] s t ∧ t.f = s.f ∧ RestSame s t

/-- 45_branch.md R304 (ret), R305 (rnz rz rnc rc rpo rpe rp rm). The order of the pop is the spec's decision D32. -/
def Obligations.ReturnsPopThePc : Prop :=
  encode .ret = [0xC9] ∧ Costs .ret 10 ∧
    (∀ s : State, ∃ t, exec .ret s = .next t ∧ t.pc = joinBytes (s.readByte (s.sp + 1)) (s.readByte s.sp) ∧
      t.sp = s.sp + 2 ∧ RegsSameBut [] s t ∧ t.f = s.f ∧ MemorySame s t ∧ RestSame s t) ∧
    ∀ k : Cond, encode (Form.rcond k) = [0b11#2 ++ k.code ++ 0b000#3] ∧ CostsTaken (Form.rcond k) 11 5 ∧
      ∀ s : State, ∃ t, exec (Form.rcond k) s = .next t ∧
        (if k.holds s.f then
          t.pc = joinBytes (s.readByte (s.sp + 1)) (s.readByte s.sp) ∧ t.sp = s.sp + 2
         else t.pc = s.pc + 1 ∧ t.sp = s.sp) ∧
        RegsSameBut [] s t ∧ t.f = s.f ∧ MemorySame s t ∧ RestSame s t

/-- 40_dispatch_flags_pairs.md R153; `Cond.ofCode` is the condition of a 3-bit code. -/
def Obligations.ConditionsTestOneFlag : Prop :=
  ∀ f : Flags, (Cond.ofCode 0b000).holds f = !f.z ∧ (Cond.ofCode 0b001).holds f = f.z ∧
    (Cond.ofCode 0b010).holds f = !f.cy ∧ (Cond.ofCode 0b011).holds f = f.cy ∧
    (Cond.ofCode 0b100).holds f = !f.p ∧ (Cond.ofCode 0b101).holds f = f.p ∧
    (Cond.ofCode 0b110).holds f = !f.s ∧ (Cond.ofCode 0b111).holds f = f.s

/-- 45_branch.md R307 (rst0 to rst7). That it executes is the spec's decision D4, its default of `P_UNNAMED_OPS`, which the model takes (log 6). -/
def Obligations.RestartIsAOneByteCall : Prop :=
  ∀ n : Fin 8, encode (Form.rst n) = [0b11#2 ++ BitVec.ofNat 3 n.val ++ 0b111#3] ∧ Costs (Form.rst n) 11 ∧
    ∀ s : State, ∃ t, exec (Form.rst n) s = .next t ∧ t.pc.toNat = 8 * n.val ∧ t.sp = s.sp - 2 ∧
      t.readByte (s.sp - 1) = hiByte (s.pc + 1) ∧ t.readByte (s.sp - 2) = loByte (s.pc + 1) ∧
      MemorySameBut [s.sp - 1, s.sp - 2] s t ∧ RegsSameBut [] s t ∧ t.f = s.f ∧ RestSame s t

/-- 40_dispatch_flags_pairs.md R132, over all instructions; `directTarget` lists the instructions that set `PC` directly. -/
def Obligations.PcAdvancesOrIsSetDirectly : Prop :=
  ∀ (i : Instr) (s t : State), exec i s = .next t →
    t.pc = (directTarget i s).getD (s.pc + BitVec.ofNat 16 (encode i).length)

/-- 45_branch.md R304, where the spec marks the consequence as derived and the order of the pop is its decision D32; 60_exceptions.md R414: the return restores `PC` only and does not restore `IE`. That RST n executes is the spec's decision D4, its default of `P_UNNAMED_OPS`, which the model takes (log 6, DESIGN CHOICE, unsafe). -/
def Obligations.ReturnResumesBehindTheCall : Prop :=
  ∀ s : State,
    (∀ addr : Word, ∃ u t, exec (.call addr) s = .next u ∧ exec .ret u = .next t ∧ t.pc = s.pc + 3 ∧ t.sp = s.sp) ∧
    (∀ n : Fin 8, ∃ u t, exec (Form.rst n) s = .next u ∧ exec .ret u = .next t ∧ t.pc = s.pc + 1 ∧ t.sp = s.sp) ∧
    ∀ v ≤ 7, s.ie = true →
      ∃ u t, deliver v s = .ok u ∧ exec .ret u = .next t ∧ t.pc = s.pc ∧ t.sp = s.sp ∧ t.ie = false ∧
        RegsSameBut [] s t ∧ t.f = s.f ∧ t.halt = s.halt

/-- 46_stack.md R341 (pushB pushD pushH), R342 (pushPSW), 10_state.md R28. The places of the flags are the spec's decision D1, the storage of the unused bits its decision D2. -/
def Obligations.PushStoresThePair : Prop :=
  (∀ p : StackPair, encode (Form.push p) = [0b11#2 ++ p.code ++ 0b0101#4] ∧ Costs (Form.push p) 11 ∧
      ∀ s : State, ∃ t, exec (Form.push p) s = .next t ∧
        t.readByte (s.sp - 1) = (match p with | .bc => s.b | .de => s.d | .hl => s.h | .psw => s.a) ∧
        t.readByte (s.sp - 2) = (match p with | .bc => s.c | .de => s.e | .hl => s.l | .psw => s.f.toByte) ∧
        t.sp = s.sp - 2 ∧ t.pc = s.pc + 1 ∧ MemorySameBut [s.sp - 1, s.sp - 2] s t ∧ RegsSameBut [] s t ∧
        t.f = s.f ∧ RestSame s t) ∧
    ∀ f : Flags, f.toByte.getLsbD 7 = f.s ∧ f.toByte.getLsbD 6 = f.z ∧ f.toByte.getLsbD 5 = f.bit5 ∧
      f.toByte.getLsbD 4 = f.ac ∧ f.toByte.getLsbD 3 = f.bit3 ∧ f.toByte.getLsbD 2 = f.p ∧
      f.toByte.getLsbD 1 = f.bit1 ∧ f.toByte.getLsbD 0 = f.cy

/-- 46_stack.md R343 (popB popD popH), R344 (popPSW). That the unused bits are stored is the spec's decision D2. -/
def Obligations.PopLoadsThePair : Prop :=
  ∀ p : StackPair, encode (Form.pop p) = [0b11#2 ++ p.code ++ 0b0001#4] ∧ Costs (Form.pop p) 10 ∧
    ∀ s : State, ∃ t, exec (Form.pop p) s = .next t ∧
      (match p with
        | .bc => t.c = s.readByte s.sp ∧ t.b = s.readByte (s.sp + 1) ∧ t.f = s.f
        | .de => t.e = s.readByte s.sp ∧ t.d = s.readByte (s.sp + 1) ∧ t.f = s.f
        | .hl => t.l = s.readByte s.sp ∧ t.h = s.readByte (s.sp + 1) ∧ t.f = s.f
        | .psw => t.f.toByte = s.readByte s.sp ∧ t.a = s.readByte (s.sp + 1)) ∧
      t.sp = s.sp + 2 ∧ t.pc = s.pc + 1 ∧ RegsSameBut p.regs s t ∧ MemorySame s t ∧ RestSame s t

/-- The property S1 of the source; the spec marks its rule as derived. -/
def Obligations.PushThenPopRestores : Prop :=
  ∀ (p : StackPair) (s : State), ∃ u t, exec (Form.push p) s = .next u ∧ exec (Form.pop p) u = .next t ∧
    RegsSameBut [] s t ∧ t.f = s.f ∧ t.sp = s.sp ∧ t.pc = s.pc + 2

/-- 47_io.md R360 (inPort), 60_exceptions.md R431. The value of a port with no function is open in the spec (D19); `draws` counts the free values and is the model's own (log 5). -/
def Obligations.InReadsThePort : Prop :=
  ∀ port : Byte, encode (.inPort port) = [0xDB, port] ∧ Costs (.inPort port) 10 ∧
    ∀ s : State, ∃ t, exec (.inPort port) s = .next t ∧
      t.a = (if port = 1 then s.p1 else if port = 2 then s.p2
        else if port = 3 then
          BitVec.ofNat 8 ((s.srHi.toNat * 256 + s.srLo.toNat) / 2 ^ (8 - s.srOff.toNat))
        else Config.portInUnmapped s.draws) ∧
      t.draws = (if port = 1 ∨ port = 2 ∨ port = 3 then s.draws else s.draws + 1) ∧ t.pc = s.pc + 2 ∧
      RegsSameBut [.a] s t ∧ t.f = s.f ∧ t.sp = s.sp ∧ MemorySame s t ∧ ControlSame s t ∧ InputsSame s t ∧
      ShifterSame s t ∧ SoundSame s t

/-- 60_exceptions.md R436. -/
def Obligations.ShiftWindowFormula : Prop :=
  ∀ s : State, ∃ t, exec (.inPort 3) s = .next t ∧
    t.a.toNat = ((s.srHi.toNat * 256 + s.srLo.toNat) / 2 ^ (8 - s.srOff.toNat)) % 256 ∧
    (s.srOff = 0 → t.a = s.srHi) ∧
    (∀ k < 8, t.a.getLsbD k =
      if s.srOff.toNat ≤ k then s.srHi.getLsbD (k - s.srOff.toNat)
      else s.srLo.getLsbD (8 - s.srOff.toNat + k))

/-- 60_exceptions.md R434, R435 (outPort at ports 2 and 4). Conflict C1 is followed. -/
def Obligations.OutWritesTheShifter : Prop :=
  ∀ s : State,
    (∃ t, exec (.outPort 2) s = .next t ∧ t.srOff.toNat = s.a.toNat % 8 ∧ t.srHi = s.srHi ∧ t.srLo = s.srLo ∧
      t.pc = s.pc + 2 ∧ RegsSameBut [] s t ∧ t.f = s.f ∧ t.sp = s.sp ∧ MemorySame s t ∧ ControlSame s t ∧
      InputsSame s t ∧ SoundSame s t ∧ t.draws = s.draws) ∧
    ∃ t, exec (.outPort 4) s = .next t ∧ t.srHi = s.a ∧ t.srLo = s.srHi ∧ t.srOff = s.srOff ∧
      t.pc = s.pc + 2 ∧ RegsSameBut [] s t ∧ t.f = s.f ∧ t.sp = s.sp ∧ MemorySame s t ∧ ControlSame s t ∧
      InputsSame s t ∧ SoundSame s t ∧ t.draws = s.draws

/-- 47_io.md R361, 60_exceptions.md R432, R437, R438 (outPort; ports 2 and 4 are in `OutWritesTheShifter`). That an event is named by port and bit is the spec's decision D28, that other ports have no effect its decision D19; the list of emitted events is the model's own (log 8). -/
def Obligations.OutSoundAndOtherPorts : Prop :=
  (∀ port : Byte, encode (.outPort port) = [0xD3, port] ∧ Costs (.outPort port) 10) ∧
    ∀ s : State,
      (∃ (t : State) (bits : Byte), exec (.outPort 3) s = .next t ∧ t.snd3 = s.a ∧ t.snd5 = s.snd5 ∧
        (∀ k < 8, bits.getLsbD k = (!s.snd3.getLsbD k && s.a.getLsbD k)) ∧
        t.sound = s.sound ++ (if bits = 0 then [] else [⟨.port3, bits⟩]) ∧ t.pc = s.pc + 2 ∧
        RegsSameBut [] s t ∧ t.f = s.f ∧ t.sp = s.sp ∧ MemorySame s t ∧ ControlSame s t ∧ InputsSame s t ∧
        ShifterSame s t ∧ t.draws = s.draws) ∧
      (∃ (t : State) (bits : Byte), exec (.outPort 5) s = .next t ∧ t.snd5 = s.a ∧ t.snd3 = s.snd3 ∧
        (∀ k < 8, bits.getLsbD k = (!s.snd5.getLsbD k && s.a.getLsbD k)) ∧
        t.sound = s.sound ++ (if bits = 0 then [] else [⟨.port5, bits⟩]) ∧ t.pc = s.pc + 2 ∧
        RegsSameBut [] s t ∧ t.f = s.f ∧ t.sp = s.sp ∧ MemorySame s t ∧ ControlSame s t ∧ InputsSame s t ∧
        ShifterSame s t ∧ t.draws = s.draws) ∧
      ∀ port : Byte, port ≠ 2 → port ≠ 3 → port ≠ 4 → port ≠ 5 →
        ∃ t, exec (.outPort port) s = .next t ∧ t.pc = s.pc + 2 ∧ RegsSameBut [] s t ∧ t.f = s.f ∧ t.sp = s.sp ∧
          MemorySame s t ∧ RestSame s t

/-- 48_control.md R370 (nop), R372 (di). -/
def Obligations.NopAndDi : Prop :=
  encode .nop = [0x00] ∧ Costs .nop 4 ∧ (∀ op b1 b2 : Byte, decodeOp op b1 b2 = .nop ↔ op = 0x00) ∧
    (∀ op ∈ ([0x08, 0x10, 0x18, 0x20, 0x28, 0x30, 0x38] : List Byte), ∀ (b1 b2 : Byte) (s : State),
      exec (decodeOp op b1 b2) s = .fault (.unimplementedOpcode op)) ∧
    (∀ s : State, (∀ x : Word, s.readByte x = 0) → s.fetch = .nop) ∧ encode .di = [0xF3] ∧ Costs .di 4 ∧
    ∀ s : State,
      (∃ t, exec .nop s = .next t ∧ t.ie = s.ie ∧ t.halt = s.halt ∧ t.pc = s.pc + 1 ∧ RegsSameBut [] s t ∧ t.f = s.f ∧ t.sp = s.sp ∧
        MemorySame s t ∧ DeviceSame s t) ∧
      ∃ t, exec .di s = .next t ∧ t.ie = false ∧ t.halt = s.halt ∧ t.pc = s.pc + 1 ∧ RegsSameBut [] s t ∧ t.f = s.f ∧ t.sp = s.sp ∧
        MemorySame s t ∧ DeviceSame s t

/-- 48_control.md R371 (ei), R373 (hlt). That EI is immediate is the spec's decision D17, the treatment of the halt its decision D16. -/
def Obligations.EiArmsAndHltHalts : Prop :=
  encode .ei = [0xFB] ∧ Costs .ei 4 ∧ encode .hlt = [0x76] ∧ Costs .hlt 7 ∧
    ∀ s : State,
      (∃ t, exec .ei s = .next t ∧ t.ie = true ∧ t.halt = s.halt ∧ t.pc = s.pc + 1 ∧ RegsSameBut [] s t ∧ t.f = s.f ∧ t.sp = s.sp ∧
        MemorySame s t ∧ DeviceSame s t) ∧
      ∃ t, exec .hlt s = .next t ∧ t.halt = true ∧ t.ie = s.ie ∧ t.pc = s.pc + 1 ∧ RegsSameBut [] s t ∧ t.f = s.f ∧ t.sp = s.sp ∧
        MemorySame s t ∧ DeviceSame s t

/-- 60_exceptions.md R410: taking an interrupt. The clauses exclude each other by the if and else chain. -/
def Obligations.DeliveryEntersTheVector : Prop :=
  ∀ (v : Nat) (s : State),
    if v > 7 then deliver v s = .invalidVector
    else if s.ie = false then deliver v s = .ok s
    else ∃ t, deliver v s = .ok t ∧ t.readByte (s.sp - 1) = hiByte s.pc ∧ t.readByte (s.sp - 2) = loByte s.pc ∧
      MemorySameBut [s.sp - 1, s.sp - 2] s t ∧ t.sp = s.sp - 2 ∧ t.pc.toNat = 8 * v ∧ t.ie = false ∧
      RegsSameBut [] s t ∧ t.f = s.f ∧ t.halt = s.halt ∧ DeviceSame s t

/-- 60_exceptions.md section 2; the spec marks the equivalence as derived. That RST n executes is the spec's decision D4, its default of `P_UNNAMED_OPS`, which the model takes (log 6, DESIGN CHOICE, unsafe). -/
def Obligations.DeliveryIsRestartThenDi : Prop :=
  ∀ (n : Fin 8) (s : State), s.ie = true →
    ∃ u, exec (Form.rst n) { s with pc := s.pc - 1 } = .next u ∧ deliver n.val s = .ok { u with ie := false }

/-- 10_state.md R31, over all instructions; `writesNoFlag` lists the instructions. -/
def Obligations.FlagsAreWrittenAsListed : Prop :=
  (∀ (i : Instr) (s t : State), writesNoFlag i = true → exec i s = .next t → t.f = s.f) ∧
    (∀ (v : Nat) (s t : State), deliver v s = .ok t → t.f = s.f) ∧
    (∀ (x : Loc) (s t : State), exec (Form.inr x) s = .next t ∨ exec (Form.dcr x) s = .next t → t.f.cy = s.f.cy) ∧
    (∀ (p : Pair) (s t : State), exec (Form.dad p) s = .next t → OnlyCarryMayChange s.f t.f) ∧
    ∀ i ∈ [Instr.rlc, .rrc, .ral, .rar, .stc, .cmc], ∀ s t : State, exec i s = .next t → OnlyCarryMayChange s.f t.f

/-- 10_state.md R33. -/
def Obligations.InterruptEnableDiscipline : Prop :=
  (∀ s : State, ∃ t, exec .ei s = .next t ∧ t.ie = true) ∧ (∀ s : State, ∃ t, exec .di s = .next t ∧ t.ie = false) ∧
    (∀ (i : Instr) (s t : State), exec i s = .next t → s.ie = false → t.ie = true → i = .ei) ∧
    (∀ (i : Instr) (s t : State), exec i s = .next t → s.ie = true → t.ie = false → i = .di) ∧
    (∀ (v : Nat) (s t : State), deliver v s = .ok t → t.ie = false) ∧
    (∀ (i : Instr) (s t : State) (b : Bool), i ≠ .ei → i ≠ .di → exec i s = .next t →
      exec i { s with ie := b } = .next { t with ie := b }) ∧
    State.reset.ie = false

/-- 10_state.md R34, 60_exceptions.md R418: the spec's decisions D16 and D18. That `step` stops issuing instructions is in `StepRunsDecodedInstruction`. -/
def Obligations.HaltIsSetByHltAndReadByNothing : Prop :=
  (∀ (i : Instr) (s t : State), exec i s = .next t → t.halt = (s.halt || decide (i = .hlt))) ∧
    (∀ (i : Instr) (s t : State) (b : Bool), i ≠ .hlt → exec i s = .next t →
      exec i { s with halt := b } = .next { t with halt := b }) ∧
    ∀ (v : Nat) (s t : State) (b : Bool), deliver v s = .ok t →
      t.halt = s.halt ∧ deliver v { s with halt := b } = .ok { t with halt := b }

/-- 10_state.md R29 (the spec's decision D2) and R38. -/
def Obligations.UnusedFlagBitsAndInputsKeep : Prop :=
  (∀ (i : Instr) (s t : State), i ≠ .popPSW → exec i s = .next t → UnusedSame s.f t.f) ∧
    ∀ (i : Instr) (s t : State), exec i s = .next t → InputsSame s t

/-- 10_state.md R39, R40. -/
def Obligations.LatchesAreWrittenByOutOnly : Prop :=
  ∀ (i : Instr) (s t : State), exec i s = .next t →
    (t.srHi ≠ s.srHi ∨ t.srLo ≠ s.srLo → i = .outPort 4) ∧ (t.srOff ≠ s.srOff → i = .outPort 2) ∧
    (t.snd3 ≠ s.snd3 → i = .outPort 3) ∧ (t.snd5 ≠ s.snd5 → i = .outPort 5)

/-- The storing instructions are collected from the instruction rules; `storesMemory` lists them. -/
def Obligations.OnlyStoresWriteMemory : Prop :=
  ∀ (i : Instr) (s t : State), storesMemory i = false → exec i s = .next t → MemorySame s t

/-- 20_memory.md R77, but for a source that cannot be read, which is the collaborator's. -/
def Obligations.LoadImageWritesAllOrNothing : Prop :=
  ∀ (base : Nat) (image : List Byte) (s : State),
    if base + image.length ≤ 65536 then
      ∃ t, loadImage base image s = .loaded t ∧
        (∀ k (h : k < image.length), t.readByte (BitVec.ofNat 16 (base + k)) = image[k]) ∧
        (∀ x : Word, x.toNat < base ∨ base + image.length ≤ x.toNat → t.readByte x = s.readByte x) ∧
        RegsSameBut [] s t ∧ t.f = s.f ∧ t.pc = s.pc ∧ t.sp = s.sp ∧ RestSame s t
    else loadImage base image s = .failed

/-- 60_exceptions.md R420. What is answered at a halt is the spec's decision D16. That the loop is looked at for a number of turns is the model's own form (log 9): `LoopReturns` and `BudgetReturns` hold of what it returns after any number of them. -/
def Obligations.RunForBudgetEnds : Prop :=
  ∀ (cost : CycleTable) (budget : Int) (s : State),
    (∀ (acc : Int) (r : BudgetResult), LoopReturns cost budget acc s r ↔
      if acc < budget ∧ s.halt = false then
        (∃ t n, execute cost s = .ok t n ∧ LoopReturns cost budget (acc + n) t r) ∨
          ∃ f, execute cost s = .error f ∧ r = .error s f
      else r = .done s (acc - budget)) ∧
    ((∀ op taken, undefinedOpcodes.contains op = false → 1 ≤ cost op taken) → ∀ turns, budget.toNat < turns →
      (∃ t left, runForBudget cost budget turns s = .done t left ∧ (t.halt = true ∨ 0 ≤ left)) ∨
        ∃ t op, runForBudget cost budget turns s = .error t (.unimplementedOpcode op)) ∧
    (∀ op taken, undefinedOpcodes.contains op = false → 1 ≤ defaultCycles op taken) ∧
    (budget ≤ 0 → ∀ r, BudgetReturns cost budget s r ↔ r = .done s (-budget))
end

