-- ==== Sys2Proof/Laws/Bytes.lean ====
section
/-! SUPPORT. Laws/Bytes.lean: bytes and words, and the flags byte. -/

namespace Sys2Proof

theorem joinBytes_getLsbD (hi lo : Byte) (i : Nat) :
    (joinBytes hi lo).getLsbD i = if i < 8 then lo.getLsbD i else hi.getLsbD (i - 8) := by
  have := BitVec.getLsbD_append (x := hi) (y := lo) (i := i)
  simpa [joinBytes] using this

theorem hiByte_getLsbD (v : Word) (i : Nat) :
    (hiByte v).getLsbD i = (decide (i < 8) && v.getLsbD (8 + i)) :=
  BitVec.getLsbD_extractLsb' 8 8 v i

theorem loByte_getLsbD (v : Word) (i : Nat) :
    (loByte v).getLsbD i = (decide (i < 8) && v.getLsbD (0 + i)) :=
  BitVec.getLsbD_extractLsb' 0 8 v i

@[simp] theorem hiByte_joinBytes (hi lo : Byte) : hiByte (joinBytes hi lo) = hi := by
  apply BitVec.eq_of_getLsbD_eq
  intro i h
  simp only [hiByte_getLsbD, joinBytes_getLsbD, h, decide_true, Bool.true_and]
  rw [if_neg (by omega), Nat.add_sub_cancel_left]

@[simp] theorem loByte_joinBytes (hi lo : Byte) : loByte (joinBytes hi lo) = lo := by
  apply BitVec.eq_of_getLsbD_eq
  intro i h
  simp only [loByte_getLsbD, joinBytes_getLsbD, h, decide_true, Bool.true_and, Nat.zero_add, if_true]

@[simp] theorem joinBytes_hiByte_loByte (v : Word) : joinBytes (hiByte v) (loByte v) = v := by
  apply BitVec.eq_of_getLsbD_eq
  intro i h
  rw [joinBytes_getLsbD]
  split
  · next h8 => simp only [loByte_getLsbD, h8, decide_true, Bool.true_and, Nat.zero_add]
  · next h8 =>
    have h' : i - 8 < 8 := by omega
    have h'' : 8 + (i - 8) = i := by omega
    simp only [hiByte_getLsbD, h', decide_true, Bool.true_and, h'']

namespace Machine

@[simp] theorem Flags.ofByte_toByte (f : Flags) : Flags.ofByte f.toByte = f := by
  obtain ⟨s, z, x5, ac, x3, p, x1, cy⟩ := f
  revert s z x5 ac x3 p x1 cy
  decide

@[simp] theorem Flags.toByte_ofByte (v : Byte) : (Flags.ofByte v).toByte = v := by
  revert v
  decide

@[simp] theorem State.setBC_bc (s : State) (v : Word) : (s.setBC v).bc = v := joinBytes_hiByte_loByte v

@[simp] theorem State.setDE_de (s : State) (v : Word) : (s.setDE v).de = v := joinBytes_hiByte_loByte v

@[simp] theorem State.setHL_hl (s : State) (v : Word) : (s.setHL v).hl = v := joinBytes_hiByte_loByte v

@[simp] theorem State.setPSW_psw (s : State) (v : Word) : (s.setPSW v).psw = v := by
  simp [State.setPSW, State.psw]

/-- The pair resolver: a pair reads as the value written to it (40_dispatch_flags_pairs.md R146, R147). -/
@[simp] theorem State.setPair_pair (s : State) (p : Pair) (v : Word) : (s.setPair p v).pair p = v := by
  cases p <;> simp [State.setPair, State.pair, State.setSP]

@[simp] theorem State.setStackPair_stackPair (s : State) (p : StackPair) (v : Word) :
    (s.setStackPair p v).stackPair p = v := by
  cases p <;> simp [State.setStackPair, State.stackPair]

end Machine
end Sys2Proof
end

