-- ==== Sys2Proof/Laws/Forms.lean ====
section
/-! SUPPORT. Laws/Forms.lean: for each family, that every form runs the family's shared operation. -/

namespace Sys2Proof.Machine

theorem exec_movReg (x y : Reg) (s : State) : exec (Form.movReg x y) s = moveTo (.reg x) (s.reg y) 1 s := by
  cases x <;> cases y <;> rfl

theorem exec_movLoad (x : Reg) (s : State) :
    exec (Form.movLoad x) s = moveTo (.reg x) (s.readByte s.hl) 1 s := by
  cases x <;> rfl

theorem exec_movStore (r : Reg) (s : State) : exec (Form.movStore r) s = moveTo .m (s.reg r) 1 s := by
  cases r <;> rfl

theorem exec_mvi (x : Loc) (v : Byte) (s : State) : exec (Form.mvi x v) s = moveTo x v 2 s := by
  cases x with
  | reg r => cases r <;> rfl
  | m => rfl

theorem exec_lxi (p : Pair) (v : Word) (s : State) : exec (Form.lxi p v) s = loadPairImmediate p v s := by
  cases p <;> rfl

theorem exec_add (x : Src) (s : State) : exec (Form.add x) s = addCore x false s := by
  cases x with
  | reg r => cases r <;> rfl
  | m => rfl
  | imm v => rfl

theorem exec_adc (x : Src) (s : State) : exec (Form.adc x) s = addCore x s.f.cy s := by
  cases x with
  | reg r => cases r <;> rfl
  | m => rfl
  | imm v => rfl

theorem exec_sub (x : Src) (s : State) : exec (Form.sub x) s = subCore x false s := by
  cases x with
  | reg r => cases r <;> rfl
  | m => rfl
  | imm v => rfl

theorem exec_sbb (x : Src) (s : State) : exec (Form.sbb x) s = subCore x s.f.cy s := by
  cases x with
  | reg r => cases r <;> rfl
  | m => rfl
  | imm v => rfl

theorem exec_ana (x : Src) (s : State) : exec (Form.ana x) s = logicCore .and x s := by
  cases x with
  | reg r => cases r <;> rfl
  | m => rfl
  | imm v => rfl

theorem exec_xra (x : Src) (s : State) : exec (Form.xra x) s = logicCore .xor x s := by
  cases x with
  | reg r => cases r <;> rfl
  | m => rfl
  | imm v => rfl

theorem exec_ora (x : Src) (s : State) : exec (Form.ora x) s = logicCore .or x s := by
  cases x with
  | reg r => cases r <;> rfl
  | m => rfl
  | imm v => rfl

theorem exec_cmp (x : Src) (s : State) : exec (Form.cmp x) s = compareCore x s := by
  cases x with
  | reg r => cases r <;> rfl
  | m => rfl
  | imm v => rfl

theorem exec_inr (x : Loc) (s : State) : exec (Form.inr x) s = increment x s := by
  cases x with
  | reg r => cases r <;> rfl
  | m => rfl

theorem exec_dcr (x : Loc) (s : State) : exec (Form.dcr x) s = decrement x s := by
  cases x with
  | reg r => cases r <;> rfl
  | m => rfl

theorem exec_inx (p : Pair) (s : State) : exec (Form.inx p) s = incrementPair p s := by
  cases p <;> rfl

theorem exec_dcx (p : Pair) (s : State) : exec (Form.dcx p) s = decrementPair p s := by
  cases p <;> rfl

theorem exec_dad (p : Pair) (s : State) : exec (Form.dad p) s = addPair p s := by
  cases p <;> rfl

theorem exec_jcond (k : Cond) (addr : Word) (s : State) : exec (Form.jcond k addr) s = jumpIf k addr s := by
  cases k <;> rfl

theorem exec_ccond (k : Cond) (addr : Word) (s : State) : exec (Form.ccond k addr) s = callIf k addr s := by
  cases k <;> rfl

theorem exec_rcond (k : Cond) (s : State) : exec (Form.rcond k) s = returnIf k s := by
  cases k <;> rfl

theorem exec_push (p : StackPair) (s : State) : exec (Form.push p) s = pushPair p s := by
  cases p <;> rfl

theorem exec_pop (p : StackPair) (s : State) : exec (Form.pop p) s = popPair p s := by
  cases p <;> rfl

/-- RST under the value of `P_UNNAMED_OPS` that the model takes. -/
theorem exec_rst (n : Fin 8) (s : State) :
    exec (Form.rst n) s = .next (s.enterVector n.val (s.pc + 1)) := by
  match n with
  | 0 | 1 | 2 | 3 | 4 | 5 | 6 | 7 => rfl

end Sys2Proof.Machine
end

