-- ==== Sys2Proof/Laws/Cases.lean ====
section
/-! SUPPORT. Laws/Cases.lean: the case split of a statement over all instructions, by family form instead of by
constructor. -/

namespace Sys2Proof.Machine

/-- A statement holds of every instruction if it holds of every form of every family. -/
theorem instr_cases {P : Instr → Prop}
    (movReg : ∀ x y : Reg, P (Form.movReg x y))
    (movLoad : ∀ x : Reg, P (Form.movLoad x))
    (movStore : ∀ x : Reg, P (Form.movStore x))
    (mvi : ∀ (x : Loc) (v : Byte), P (Form.mvi x v))
    (lxi : ∀ (p : Pair) (v : Word), P (Form.lxi p v))
    (add : ∀ x : Src, P (Form.add x))
    (adc : ∀ x : Src, P (Form.adc x))
    (sub : ∀ x : Src, P (Form.sub x))
    (sbb : ∀ x : Src, P (Form.sbb x))
    (ana : ∀ x : Src, P (Form.ana x))
    (xra : ∀ x : Src, P (Form.xra x))
    (ora : ∀ x : Src, P (Form.ora x))
    (cmp : ∀ x : Src, P (Form.cmp x))
    (inr : ∀ x : Loc, P (Form.inr x))
    (dcr : ∀ x : Loc, P (Form.dcr x))
    (inx : ∀ p : Pair, P (Form.inx p))
    (dcx : ∀ p : Pair, P (Form.dcx p))
    (dad : ∀ p : Pair, P (Form.dad p))
    (jcond : ∀ (k : Cond) (v : Word), P (Form.jcond k v))
    (ccond : ∀ (k : Cond) (v : Word), P (Form.ccond k v))
    (rcond : ∀ k : Cond, P (Form.rcond k))
    (push : ∀ p : StackPair, P (Form.push p))
    (pop : ∀ p : StackPair, P (Form.pop p))
    (rst : ∀ n : Fin 8, P (Form.rst n))
    (nop : P .nop)
    (staxB : P .staxB)
    (rlc : P .rlc)
    (ldaxB : P .ldaxB)
    (rrc : P .rrc)
    (staxD : P .staxD)
    (ral : P .ral)
    (ldaxD : P .ldaxD)
    (rar : P .rar)
    (shld : ∀ v : Word, P (.shld v))
    (daa : P .daa)
    (lhld : ∀ v : Word, P (.lhld v))
    (cma : P .cma)
    (sta : ∀ v : Word, P (.sta v))
    (stc : P .stc)
    (lda : ∀ v : Word, P (.lda v))
    (cmc : P .cmc)
    (hlt : P .hlt)
    (jmp : ∀ v : Word, P (.jmp v))
    (ret : P .ret)
    (call : ∀ v : Word, P (.call v))
    (outPort : ∀ v : Byte, P (.outPort v))
    (inPort : ∀ v : Byte, P (.inPort v))
    (xthl : P .xthl)
    (pchl : P .pchl)
    (xchg : P .xchg)
    (di : P .di)
    (sphl : P .sphl)
    (ei : P .ei)
    (undefined : ∀ op : Byte, P (.undefined op)) (i : Instr) : P i := by
  cases i with
  | nop => exact nop
  | lxiB v => exact lxi .bc v
  | staxB => exact staxB
  | inxB => exact inx .bc
  | inrB => exact inr (.reg .b)
  | dcrB => exact dcr (.reg .b)
  | mviB v => exact mvi (.reg .b) v
  | rlc => exact rlc
  | dadB => exact dad .bc
  | ldaxB => exact ldaxB
  | dcxB => exact dcx .bc
  | inrC => exact inr (.reg .c)
  | dcrC => exact dcr (.reg .c)
  | mviC v => exact mvi (.reg .c) v
  | rrc => exact rrc
  | lxiD v => exact lxi .de v
  | staxD => exact staxD
  | inxD => exact inx .de
  | inrD => exact inr (.reg .d)
  | dcrD => exact dcr (.reg .d)
  | mviD v => exact mvi (.reg .d) v
  | ral => exact ral
  | dadD => exact dad .de
  | ldaxD => exact ldaxD
  | dcxD => exact dcx .de
  | inrE => exact inr (.reg .e)
  | dcrE => exact dcr (.reg .e)
  | mviE v => exact mvi (.reg .e) v
  | rar => exact rar
  | lxiH v => exact lxi .hl v
  | shld v => exact shld v
  | inxH => exact inx .hl
  | inrH => exact inr (.reg .h)
  | dcrH => exact dcr (.reg .h)
  | mviH v => exact mvi (.reg .h) v
  | daa => exact daa
  | dadH => exact dad .hl
  | lhld v => exact lhld v
  | dcxH => exact dcx .hl
  | inrL => exact inr (.reg .l)
  | dcrL => exact dcr (.reg .l)
  | mviL v => exact mvi (.reg .l) v
  | cma => exact cma
  | lxiSP v => exact lxi .sp v
  | sta v => exact sta v
  | inxSP => exact inx .sp
  | inrM => exact inr .m
  | dcrM => exact dcr .m
  | mviM v => exact mvi .m v
  | stc => exact stc
  | dadSP => exact dad .sp
  | lda v => exact lda v
  | dcxSP => exact dcx .sp
  | inrA => exact inr (.reg .a)
  | dcrA => exact dcr (.reg .a)
  | mviA v => exact mvi (.reg .a) v
  | cmc => exact cmc
  | movBB => exact movReg .b .b
  | movBC => exact movReg .b .c
  | movBD => exact movReg .b .d
  | movBE => exact movReg .b .e
  | movBH => exact movReg .b .h
  | movBL => exact movReg .b .l
  | movBM => exact movLoad .b
  | movBA => exact movReg .b .a
  | movCB => exact movReg .c .b
  | movCC => exact movReg .c .c
  | movCD => exact movReg .c .d
  | movCE => exact movReg .c .e
  | movCH => exact movReg .c .h
  | movCL => exact movReg .c .l
  | movCM => exact movLoad .c
  | movCA => exact movReg .c .a
  | movDB => exact movReg .d .b
  | movDC => exact movReg .d .c
  | movDD => exact movReg .d .d
  | movDE => exact movReg .d .e
  | movDH => exact movReg .d .h
  | movDL => exact movReg .d .l
  | movDM => exact movLoad .d
  | movDA => exact movReg .d .a
  | movEB => exact movReg .e .b
  | movEC => exact movReg .e .c
  | movED => exact movReg .e .d
  | movEE => exact movReg .e .e
  | movEH => exact movReg .e .h
  | movEL => exact movReg .e .l
  | movEM => exact movLoad .e
  | movEA => exact movReg .e .a
  | movHB => exact movReg .h .b
  | movHC => exact movReg .h .c
  | movHD => exact movReg .h .d
  | movHE => exact movReg .h .e
  | movHH => exact movReg .h .h
  | movHL => exact movReg .h .l
  | movHM => exact movLoad .h
  | movHA => exact movReg .h .a
  | movLB => exact movReg .l .b
  | movLC => exact movReg .l .c
  | movLD => exact movReg .l .d
  | movLE => exact movReg .l .e
  | movLH => exact movReg .l .h
  | movLL => exact movReg .l .l
  | movLM => exact movLoad .l
  | movLA => exact movReg .l .a
  | movMB => exact movStore .b
  | movMC => exact movStore .c
  | movMD => exact movStore .d
  | movME => exact movStore .e
  | movMH => exact movStore .h
  | movML => exact movStore .l
  | hlt => exact hlt
  | movMA => exact movStore .a
  | movAB => exact movReg .a .b
  | movAC => exact movReg .a .c
  | movAD => exact movReg .a .d
  | movAE => exact movReg .a .e
  | movAH => exact movReg .a .h
  | movAL => exact movReg .a .l
  | movAM => exact movLoad .a
  | movAA => exact movReg .a .a
  | addB => exact add (.reg .b)
  | addC => exact add (.reg .c)
  | addD => exact add (.reg .d)
  | addE => exact add (.reg .e)
  | addH => exact add (.reg .h)
  | addL => exact add (.reg .l)
  | addM => exact add .m
  | addA => exact add (.reg .a)
  | adcB => exact adc (.reg .b)
  | adcC => exact adc (.reg .c)
  | adcD => exact adc (.reg .d)
  | adcE => exact adc (.reg .e)
  | adcH => exact adc (.reg .h)
  | adcL => exact adc (.reg .l)
  | adcM => exact adc .m
  | adcA => exact adc (.reg .a)
  | subB => exact sub (.reg .b)
  | subC => exact sub (.reg .c)
  | subD => exact sub (.reg .d)
  | subE => exact sub (.reg .e)
  | subH => exact sub (.reg .h)
  | subL => exact sub (.reg .l)
  | subM => exact sub .m
  | subA => exact sub (.reg .a)
  | sbbB => exact sbb (.reg .b)
  | sbbC => exact sbb (.reg .c)
  | sbbD => exact sbb (.reg .d)
  | sbbE => exact sbb (.reg .e)
  | sbbH => exact sbb (.reg .h)
  | sbbL => exact sbb (.reg .l)
  | sbbM => exact sbb .m
  | sbbA => exact sbb (.reg .a)
  | anaB => exact ana (.reg .b)
  | anaC => exact ana (.reg .c)
  | anaD => exact ana (.reg .d)
  | anaE => exact ana (.reg .e)
  | anaH => exact ana (.reg .h)
  | anaL => exact ana (.reg .l)
  | anaM => exact ana .m
  | anaA => exact ana (.reg .a)
  | xraB => exact xra (.reg .b)
  | xraC => exact xra (.reg .c)
  | xraD => exact xra (.reg .d)
  | xraE => exact xra (.reg .e)
  | xraH => exact xra (.reg .h)
  | xraL => exact xra (.reg .l)
  | xraM => exact xra .m
  | xraA => exact xra (.reg .a)
  | oraB => exact ora (.reg .b)
  | oraC => exact ora (.reg .c)
  | oraD => exact ora (.reg .d)
  | oraE => exact ora (.reg .e)
  | oraH => exact ora (.reg .h)
  | oraL => exact ora (.reg .l)
  | oraM => exact ora .m
  | oraA => exact ora (.reg .a)
  | cmpB => exact cmp (.reg .b)
  | cmpC => exact cmp (.reg .c)
  | cmpD => exact cmp (.reg .d)
  | cmpE => exact cmp (.reg .e)
  | cmpH => exact cmp (.reg .h)
  | cmpL => exact cmp (.reg .l)
  | cmpM => exact cmp .m
  | cmpA => exact cmp (.reg .a)
  | rnz => exact rcond .nz
  | popB => exact pop .bc
  | jnz v => exact jcond .nz v
  | jmp v => exact jmp v
  | cnz v => exact ccond .nz v
  | pushB => exact push .bc
  | adi v => exact add (.imm v)
  | rst0 => exact rst 0
  | rz => exact rcond .z
  | ret => exact ret
  | jz v => exact jcond .z v
  | cz v => exact ccond .z v
  | call v => exact call v
  | aci v => exact adc (.imm v)
  | rst1 => exact rst 1
  | rnc => exact rcond .nc
  | popD => exact pop .de
  | jnc v => exact jcond .nc v
  | outPort v => exact outPort v
  | cnc v => exact ccond .nc v
  | pushD => exact push .de
  | sui v => exact sub (.imm v)
  | rst2 => exact rst 2
  | rc => exact rcond .c
  | jc v => exact jcond .c v
  | inPort v => exact inPort v
  | cc v => exact ccond .c v
  | sbi v => exact sbb (.imm v)
  | rst3 => exact rst 3
  | rpo => exact rcond .po
  | popH => exact pop .hl
  | jpo v => exact jcond .po v
  | xthl => exact xthl
  | cpo v => exact ccond .po v
  | pushH => exact push .hl
  | ani v => exact ana (.imm v)
  | rst4 => exact rst 4
  | rpe => exact rcond .pe
  | pchl => exact pchl
  | jpe v => exact jcond .pe v
  | xchg => exact xchg
  | cpe v => exact ccond .pe v
  | xri v => exact xra (.imm v)
  | rst5 => exact rst 5
  | rp => exact rcond .p
  | popPSW => exact pop .psw
  | jp v => exact jcond .p v
  | di => exact di
  | cp v => exact ccond .p v
  | pushPSW => exact push .psw
  | ori v => exact ora (.imm v)
  | rst6 => exact rst 6
  | rm => exact rcond .m
  | sphl => exact sphl
  | jm v => exact jcond .m v
  | ei => exact ei
  | cm v => exact ccond .m v
  | cpi v => exact cmp (.imm v)
  | rst7 => exact rst 7
  | undefined op => exact undefined op

end Sys2Proof.Machine
end

