-- ==== Sys2Proof/Laws/Decode.lean ====
section
/-! SUPPORT. Laws/Decode.lean: what the decoder does, said once. -/

namespace Sys2Proof

theorem opLength_cases (op : Byte) : opLength op = 1 ∨ opLength op = 2 ∨ opLength op = 3 := by
  unfold opLength
  split
  · simp
  · split <;> simp

/-- The opcode map gives back the bytes it read, as many as the length rule says (30_encoding.md R92, R100). -/
theorem encode_decodeOp (op b1 b2 : Byte) :
    encode (decodeOp op b1 b2) = op :: [b1, b2].take (opLength op - 1) := by
  have key : ∀ n < 256, encode (decodeOp (BitVec.ofNat 8 n) b1 b2) =
      BitVec.ofNat 8 n :: [b1, b2].take (opLength (BitVec.ofNat 8 n) - 1) := by
    intro n hn
    have h3 : ∀ x : Byte, encodeWord x (joinBytes b2 b1) = [x, b1, b2] := fun x => by
      rw [encodeWord, loByte_joinBytes, hiByte_joinBytes]
    interval_cases n
    all_goals first | exact h3 _ | rfl
  have := key op.toNat op.isLt
  rwa [BitVec.ofNat_toNat, BitVec.setWidth_eq] at this

/-- Everything the decoder can do: it reads as many bytes as the opcode byte says, and gives the rest. -/
theorem decode_cases (bytes rest : List Byte) (i : Instr) (h : decode bytes = .ok (i, rest)) :
    ∃ op b1 b2, i = decodeOp op b1 b2 ∧
      ((opLength op = 1 ∧ b1 = 0 ∧ b2 = 0 ∧ bytes = op :: rest) ∨
        (opLength op = 2 ∧ b2 = 0 ∧ bytes = op :: b1 :: rest) ∨
        (opLength op = 3 ∧ bytes = op :: b1 :: b2 :: rest)) := by
  match bytes with
  | [] => simp [decode] at h
  | op :: tail =>
    rcases opLength_cases op with h1 | h2 | h3
    · simp only [decode, h1, if_true, Except.ok.injEq, Prod.mk.injEq] at h
      exact ⟨op, 0, 0, h.1.symm, .inl ⟨h1, rfl, rfl, by rw [h.2]⟩⟩
    · match tail with
      | [] => simp [decode, h2] at h
      | b1 :: tail1 =>
        simp only [decode, h2, if_true, Except.ok.injEq, Prod.mk.injEq, OfNat.ofNat_ne_one, if_false] at h
        exact ⟨op, b1, 0, h.1.symm, .inr (.inl ⟨h2, rfl, by rw [h.2]⟩)⟩
    · match tail with
      | [] => simp [decode, h3] at h
      | [b1] => simp [decode, h3] at h
      | b1 :: b2 :: tail2 =>
        simp only [decode, h3, Except.ok.injEq, Prod.mk.injEq, OfNat.ofNat_ne_one, if_false,
          show (3 : Nat) ≠ 2 by decide] at h
        exact ⟨op, b1, b2, h.1.symm, .inr (.inr ⟨h3, by rw [h.2]⟩)⟩

end Sys2Proof
end

