-- ==== Sys2Proof/Laws/Flags.lean ====
section
/-! SUPPORT. Laws/Flags.lean: what each flag computation leaves in each flag, said once. -/

namespace Sys2Proof.Machine

theorem popcount_eq_countP : ∀ v : Byte, popcount v = (List.range 8).countP fun i => v.getLsbD i := by
  decide

theorem sign_iff : ∀ v : Byte, v.getLsbD 7 = true ↔ 128 ≤ v.toNat := by
  decide

/-- `SetZSP(v)` leaves the `Z`, `S` and `P` of `v` (40_dispatch_flags_pairs.md R140). -/
theorem Flags.setZSP_zspOf (f : Flags) (v : Byte) : ZspOf (f.setZSP v) v := by
  refine ⟨?_, ?_, ?_⟩
  · simp [Flags.setZSP, Flags.setZ, Flags.setS, Flags.setP]
  · simp only [Flags.setZSP, Flags.setZ, Flags.setS, Flags.setP]
    exact sign_iff v
  · simp only [Flags.setZSP, Flags.setZ, Flags.setS, Flags.setP, popcount_eq_countP, decide_eq_true_eq]

@[simp] theorem Flags.setZSP_cy (f : Flags) (v : Byte) : (f.setZSP v).cy = f.cy := by
  simp [Flags.setZSP, Flags.setZ, Flags.setS, Flags.setP]

@[simp] theorem Flags.setZSP_ac (f : Flags) (v : Byte) : (f.setZSP v).ac = f.ac := by
  simp [Flags.setZSP, Flags.setZ, Flags.setS, Flags.setP]

theorem Flags.setZSP_unused (f : Flags) (v : Byte) : UnusedSame f (f.setZSP v) := ⟨rfl, rfl, rfl⟩

theorem Flags.setCY_onlyCarry (f : Flags) (b : Bool) : OnlyCarryMayChange f (f.setCY b) :=
  ⟨rfl, rfl, rfl, rfl, rfl, rfl, rfl⟩

/-- `AddCore` leaves the flags of the integer sum (42_arithmetic.md R200). -/
theorem Flags.afterAdd_spec (f : Flags) (x y : Byte) (cin : Bool) :
    ((f.afterAdd x y cin).cy = true ↔ 255 < x.toNat + y.toNat + cin.toNat) ∧
      ((f.afterAdd x y cin).ac = true ↔ 15 < x.toNat % 16 + y.toNat % 16 + cin.toNat) ∧
      ZspOf (f.afterAdd x y cin) (BitVec.ofNat 8 (addSum x y cin)) ∧ UnusedSame f (f.afterAdd x y cin) := by
  refine ⟨?_, ?_, Flags.setZSP_zspOf _ _, rfl, rfl, rfl⟩
  · simp [Flags.afterAdd, Flags.setCY, addCarry, addSum]
  · simp [Flags.afterAdd, Flags.setCY, Flags.setAC, auxAdd, lowNibble]

/-- `SubCore` leaves the flags of the integer difference, for both values of `P_SUB_AUX` (42_arithmetic.md R201). -/
theorem Flags.afterSub_spec (f : Flags) (x y : Byte) (bin : Bool) :
    ((f.afterSub x y bin).cy = true ↔ x.toNat < y.toNat + bin.toNat) ∧
      (f.afterSub x y bin).ac = auxOfBorrow Config.subAux (decide (x.toNat % 16 < y.toNat % 16 + bin.toNat)) ∧
      ZspOf (f.afterSub x y bin) (subResult x y bin) ∧ UnusedSame f (f.afterSub x y bin) := by
  refine ⟨?_, rfl, Flags.setZSP_zspOf _ _, rfl, rfl, rfl⟩
  simp [Flags.afterSub, Flags.setCY, subCarry]

/-- A bit operation clears `CY` and leaves the `Z`, `S`, `P` of its result (43_logical.md R250). -/
theorem Flags.afterLogic_spec (f : Flags) (op : LogicOp) (x v : Byte) :
    (f.afterLogic op x v).cy = false ∧ (f.afterLogic op x v).ac = logicAux op x v ∧
      ZspOf (f.afterLogic op x v) (logicResult op x v) ∧ UnusedSame f (f.afterLogic op x v) :=
  ⟨rfl, rfl, Flags.setZSP_zspOf f (logicResult op x v), rfl, rfl, rfl⟩

end Sys2Proof.Machine
end

