-- ==== Sys2Proof/Laws/Memory.lean ====
section
/-! SUPPORT. Laws/Memory.lean: read after write, and that a write keeps the canonical form. -/

namespace Sys2Proof.Machine

/-- Every address of the list is above `addr`. -/
def Memory.above (m : Memory) (addr : Nat) : Prop := ∀ cell ∈ m, addr < cell.1

theorem Memory.read_of_not_mem (m : Memory) (addr : Nat) (h : ∀ cell ∈ m, cell.1 ≠ addr) :
    m.read addr = 0 := by
  induction m with
  | nil => rfl
  | cons cell m ih =>
    simp only [List.forall_mem_cons] at h
    simp [Memory.read, h.1, ih h.2]

theorem Memory.read_erase_self (m : Memory) (addr : Nat) : (m.erase addr).read addr = 0 := by
  apply Memory.read_of_not_mem
  intro cell hc
  simpa using (List.mem_filter.mp hc).2

theorem Memory.read_erase_other (m : Memory) {addr x : Nat} (h : x ≠ addr) :
    (m.erase addr).read x = m.read x := by
  induction m with
  | nil => rfl
  | cons cell m ih =>
    by_cases hc : cell.1 = addr
    · have : cell.1 ≠ x := by omega
      simpa [Memory.erase, hc, Memory.read, this, Ne.symm h] using ih
    · have he : Memory.erase (cell :: m) addr = cell :: Memory.erase m addr := by
        simp [Memory.erase, hc]
      simp only [he, Memory.read, ih]

theorem Memory.read_insert_self (m : Memory) (addr : Nat) (v : Byte) (h : ∀ cell ∈ m, cell.1 ≠ addr) :
    (m.insert addr v).read addr = v := by
  induction m with
  | nil => simp [Memory.insert, Memory.read]
  | cons cell m ih =>
    simp only [List.forall_mem_cons] at h
    by_cases hc : addr < cell.1
    · simp [Memory.insert, hc, Memory.read]
    · simp [Memory.insert, hc, Memory.read, h.1, ih h.2]

theorem Memory.read_insert_other (m : Memory) {addr x : Nat} (v : Byte) (h : x ≠ addr) :
    (m.insert addr v).read x = m.read x := by
  induction m with
  | nil => simp [Memory.insert, Memory.read, Ne.symm h]
  | cons cell m ih =>
    by_cases hc : addr < cell.1
    · simp [Memory.insert, hc, Memory.read, Ne.symm h]
    · simp [Memory.insert, hc, Memory.read, ih]

theorem Memory.erase_ne (m : Memory) (addr : Nat) : ∀ cell ∈ m.erase addr, cell.1 ≠ addr := by
  intro cell hc
  simpa using (List.mem_filter.mp hc).2

theorem Memory.write_zero (m : Memory) (addr : Nat) : m.write addr 0 = m.erase addr := if_pos rfl

theorem Memory.write_nonzero (m : Memory) (addr : Nat) {v : Byte} (hv : v ≠ 0) :
    m.write addr v = (m.erase addr).insert addr v := if_neg hv

/-- Read after write, in every list of cells. -/
theorem Memory.read_write (m : Memory) (addr x : Nat) (v : Byte) :
    (m.write addr v).read x = if x = addr then v else m.read x := by
  by_cases hv : v = 0
  · subst hv
    rw [Memory.write_zero]
    split
    · next hx => rw [hx, Memory.read_erase_self]
    · next hx => exact Memory.read_erase_other _ hx
  · rw [Memory.write_nonzero _ _ hv]
    split
    · next hx => rw [hx, Memory.read_insert_self _ _ _ (m.erase_ne addr)]
    · next hx => rw [Memory.read_insert_other _ _ hx, Memory.read_erase_other _ hx]

/-- The canonical form as a proposition: sorted, inside the address space, no zero listed. -/
theorem Memory.wf_iff (m : Memory) :
    m.wf = true ↔ m.Pairwise (fun x y => x.1 < y.1) ∧ ∀ cell ∈ m, cell.1 < 65536 ∧ cell.2 ≠ 0 := by
  have hr : ∀ m : Memory, m.rising = true ↔ m.Pairwise fun x y => x.1 < y.1 := by
    intro m
    induction m with
    | nil => simp [Memory.rising]
    | cons x m ih =>
      cases m with
      | nil => simp [Memory.rising]
      | cons y m =>
        simp only [Memory.rising, Bool.and_eq_true, decide_eq_true_eq, ih, List.pairwise_cons,
          List.forall_mem_cons]
        constructor
        · rintro ⟨h1, h2, h3⟩
          exact ⟨⟨h1, fun z hz => Nat.lt_trans h1 (h2 z hz)⟩, h2, h3⟩
        · rintro ⟨⟨h1, -⟩, h2, h3⟩
          exact ⟨h1, h2, h3⟩
  simp only [Memory.wf, Bool.and_eq_true, hr, List.all_eq_true, decide_eq_true_eq]

theorem Memory.wf_nil : Memory.wf [] = true := rfl

theorem Memory.mem_insert (m : Memory) (addr : Nat) (v : Byte) (cell : Host.Cell) :
    cell ∈ m.insert addr v → cell = (addr, v) ∨ cell ∈ m := by
  induction m with
  | nil => simp [Memory.insert]
  | cons x m ih =>
    by_cases hc : addr < x.1
    · simp [Memory.insert, hc]
    · simp only [Memory.insert, hc, if_false, List.mem_cons]
      rintro (h | h)
      · exact .inr (.inl h)
      · exact (ih h).imp_right .inr

theorem Memory.pairwise_insert (m : Memory) (addr : Nat) (v : Byte)
    (hm : m.Pairwise fun x y => x.1 < y.1) (hne : ∀ cell ∈ m, cell.1 ≠ addr) :
    (m.insert addr v).Pairwise fun x y => x.1 < y.1 := by
  induction m with
  | nil => simp [Memory.insert]
  | cons x m ih =>
    simp only [List.pairwise_cons, List.forall_mem_cons] at hm hne
    by_cases hc : addr < x.1
    · simp only [Memory.insert, if_pos hc, List.pairwise_cons, List.forall_mem_cons]
      exact ⟨⟨hc, fun y hy => Nat.lt_trans hc (hm.1 y hy)⟩, hm⟩
    · simp only [Memory.insert, hc, if_false, List.pairwise_cons]
      refine ⟨fun y hy => ?_, ih hm.2 hne.2⟩
      rcases Memory.mem_insert m addr v y hy with rfl | h
      · have := hne.1
        simp only
        omega
      · exact hm.1 y h

/-- A write inside the address space keeps the canonical form. -/
theorem Memory.wf_write (m : Memory) (addr : Nat) (v : Byte) (ha : addr < 65536) (hm : m.wf = true) :
    (m.write addr v).wf = true := by
  rw [Memory.wf_iff] at hm ⊢
  have he : (m.erase addr).Pairwise fun x y => x.1 < y.1 := hm.1.filter _
  have hb : ∀ cell ∈ m.erase addr, cell.1 < 65536 ∧ cell.2 ≠ 0 :=
    fun cell hc => hm.2 cell (List.mem_filter.mp hc).1
  by_cases hv : v = 0
  · rw [hv, Memory.write_zero]
    exact ⟨he, hb⟩
  · rw [Memory.write_nonzero _ _ hv]
    refine ⟨Memory.pairwise_insert _ _ _ he (m.erase_ne addr), fun cell hc => ?_⟩
    rcases Memory.mem_insert _ _ _ _ hc with rfl | h
    · exact ⟨ha, hv⟩
    · exact hb cell h

end Sys2Proof.Machine
end

