-- ==== Sys2Proof/Laws/State.lean ====
section
/-! SUPPORT. Laws/State.lean: one lemma per field per update, so that no proof unfolds a record update. -/

namespace Sys2Proof.Machine

/-! ### `setFlags` -/

@[simp] theorem State.setFlags_a (s : State) (f : Flags) : (s.setFlags f).a = s.a := by
  simp only [State.setFlags]
@[simp] theorem State.setFlags_b (s : State) (f : Flags) : (s.setFlags f).b = s.b := by
  simp only [State.setFlags]
@[simp] theorem State.setFlags_c (s : State) (f : Flags) : (s.setFlags f).c = s.c := by
  simp only [State.setFlags]
@[simp] theorem State.setFlags_d (s : State) (f : Flags) : (s.setFlags f).d = s.d := by
  simp only [State.setFlags]
@[simp] theorem State.setFlags_e (s : State) (f : Flags) : (s.setFlags f).e = s.e := by
  simp only [State.setFlags]
@[simp] theorem State.setFlags_h (s : State) (f : Flags) : (s.setFlags f).h = s.h := by
  simp only [State.setFlags]
@[simp] theorem State.setFlags_l (s : State) (f : Flags) : (s.setFlags f).l = s.l := by
  simp only [State.setFlags]
@[simp] theorem State.setFlags_f (s : State) (f : Flags) : (s.setFlags f).f = f := by
  simp only [State.setFlags]
@[simp] theorem State.setFlags_pc (s : State) (f : Flags) : (s.setFlags f).pc = s.pc := by
  simp only [State.setFlags]
@[simp] theorem State.setFlags_sp (s : State) (f : Flags) : (s.setFlags f).sp = s.sp := by
  simp only [State.setFlags]
@[simp] theorem State.setFlags_ie (s : State) (f : Flags) : (s.setFlags f).ie = s.ie := by
  simp only [State.setFlags]
@[simp] theorem State.setFlags_halt (s : State) (f : Flags) : (s.setFlags f).halt = s.halt := by
  simp only [State.setFlags]
@[simp] theorem State.setFlags_mem (s : State) (f : Flags) : (s.setFlags f).mem = s.mem := by
  simp only [State.setFlags]
@[simp] theorem State.setFlags_p1 (s : State) (f : Flags) : (s.setFlags f).p1 = s.p1 := by
  simp only [State.setFlags]
@[simp] theorem State.setFlags_p2 (s : State) (f : Flags) : (s.setFlags f).p2 = s.p2 := by
  simp only [State.setFlags]
@[simp] theorem State.setFlags_srHi (s : State) (f : Flags) : (s.setFlags f).srHi = s.srHi := by
  simp only [State.setFlags]
@[simp] theorem State.setFlags_srLo (s : State) (f : Flags) : (s.setFlags f).srLo = s.srLo := by
  simp only [State.setFlags]
@[simp] theorem State.setFlags_srOff (s : State) (f : Flags) : (s.setFlags f).srOff = s.srOff := by
  simp only [State.setFlags]
@[simp] theorem State.setFlags_snd3 (s : State) (f : Flags) : (s.setFlags f).snd3 = s.snd3 := by
  simp only [State.setFlags]
@[simp] theorem State.setFlags_snd5 (s : State) (f : Flags) : (s.setFlags f).snd5 = s.snd5 := by
  simp only [State.setFlags]
@[simp] theorem State.setFlags_sound (s : State) (f : Flags) : (s.setFlags f).sound = s.sound := by
  simp only [State.setFlags]
@[simp] theorem State.setFlags_draws (s : State) (f : Flags) : (s.setFlags f).draws = s.draws := by
  simp only [State.setFlags]
@[simp] theorem State.setFlags_reg (s : State) (f : Flags) (q : Reg) : (s.setFlags f).reg q = s.reg q := by
  cases q <;> simp [State.reg]
@[simp] theorem State.setFlags_readByte (s : State) (f : Flags) (y : Word) : (s.setFlags f).readByte y = s.readByte y := by
  simp [State.readByte]

/-! ### `setBC` -/

@[simp] theorem State.setBC_a (s : State) (v : Word) : (s.setBC v).a = s.a := by
  simp only [State.setBC]
@[simp] theorem State.setBC_b (s : State) (v : Word) : (s.setBC v).b = hiByte v := by
  simp only [State.setBC]
@[simp] theorem State.setBC_c (s : State) (v : Word) : (s.setBC v).c = loByte v := by
  simp only [State.setBC]
@[simp] theorem State.setBC_d (s : State) (v : Word) : (s.setBC v).d = s.d := by
  simp only [State.setBC]
@[simp] theorem State.setBC_e (s : State) (v : Word) : (s.setBC v).e = s.e := by
  simp only [State.setBC]
@[simp] theorem State.setBC_h (s : State) (v : Word) : (s.setBC v).h = s.h := by
  simp only [State.setBC]
@[simp] theorem State.setBC_l (s : State) (v : Word) : (s.setBC v).l = s.l := by
  simp only [State.setBC]
@[simp] theorem State.setBC_f (s : State) (v : Word) : (s.setBC v).f = s.f := by
  simp only [State.setBC]
@[simp] theorem State.setBC_pc (s : State) (v : Word) : (s.setBC v).pc = s.pc := by
  simp only [State.setBC]
@[simp] theorem State.setBC_sp (s : State) (v : Word) : (s.setBC v).sp = s.sp := by
  simp only [State.setBC]
@[simp] theorem State.setBC_ie (s : State) (v : Word) : (s.setBC v).ie = s.ie := by
  simp only [State.setBC]
@[simp] theorem State.setBC_halt (s : State) (v : Word) : (s.setBC v).halt = s.halt := by
  simp only [State.setBC]
@[simp] theorem State.setBC_mem (s : State) (v : Word) : (s.setBC v).mem = s.mem := by
  simp only [State.setBC]
@[simp] theorem State.setBC_p1 (s : State) (v : Word) : (s.setBC v).p1 = s.p1 := by
  simp only [State.setBC]
@[simp] theorem State.setBC_p2 (s : State) (v : Word) : (s.setBC v).p2 = s.p2 := by
  simp only [State.setBC]
@[simp] theorem State.setBC_srHi (s : State) (v : Word) : (s.setBC v).srHi = s.srHi := by
  simp only [State.setBC]
@[simp] theorem State.setBC_srLo (s : State) (v : Word) : (s.setBC v).srLo = s.srLo := by
  simp only [State.setBC]
@[simp] theorem State.setBC_srOff (s : State) (v : Word) : (s.setBC v).srOff = s.srOff := by
  simp only [State.setBC]
@[simp] theorem State.setBC_snd3 (s : State) (v : Word) : (s.setBC v).snd3 = s.snd3 := by
  simp only [State.setBC]
@[simp] theorem State.setBC_snd5 (s : State) (v : Word) : (s.setBC v).snd5 = s.snd5 := by
  simp only [State.setBC]
@[simp] theorem State.setBC_sound (s : State) (v : Word) : (s.setBC v).sound = s.sound := by
  simp only [State.setBC]
@[simp] theorem State.setBC_draws (s : State) (v : Word) : (s.setBC v).draws = s.draws := by
  simp only [State.setBC]
@[simp] theorem State.setBC_readByte (s : State) (v : Word) (y : Word) : (s.setBC v).readByte y = s.readByte y := by
  simp [State.readByte]

/-! ### `setDE` -/

@[simp] theorem State.setDE_a (s : State) (v : Word) : (s.setDE v).a = s.a := by
  simp only [State.setDE]
@[simp] theorem State.setDE_b (s : State) (v : Word) : (s.setDE v).b = s.b := by
  simp only [State.setDE]
@[simp] theorem State.setDE_c (s : State) (v : Word) : (s.setDE v).c = s.c := by
  simp only [State.setDE]
@[simp] theorem State.setDE_d (s : State) (v : Word) : (s.setDE v).d = hiByte v := by
  simp only [State.setDE]
@[simp] theorem State.setDE_e (s : State) (v : Word) : (s.setDE v).e = loByte v := by
  simp only [State.setDE]
@[simp] theorem State.setDE_h (s : State) (v : Word) : (s.setDE v).h = s.h := by
  simp only [State.setDE]
@[simp] theorem State.setDE_l (s : State) (v : Word) : (s.setDE v).l = s.l := by
  simp only [State.setDE]
@[simp] theorem State.setDE_f (s : State) (v : Word) : (s.setDE v).f = s.f := by
  simp only [State.setDE]
@[simp] theorem State.setDE_pc (s : State) (v : Word) : (s.setDE v).pc = s.pc := by
  simp only [State.setDE]
@[simp] theorem State.setDE_sp (s : State) (v : Word) : (s.setDE v).sp = s.sp := by
  simp only [State.setDE]
@[simp] theorem State.setDE_ie (s : State) (v : Word) : (s.setDE v).ie = s.ie := by
  simp only [State.setDE]
@[simp] theorem State.setDE_halt (s : State) (v : Word) : (s.setDE v).halt = s.halt := by
  simp only [State.setDE]
@[simp] theorem State.setDE_mem (s : State) (v : Word) : (s.setDE v).mem = s.mem := by
  simp only [State.setDE]
@[simp] theorem State.setDE_p1 (s : State) (v : Word) : (s.setDE v).p1 = s.p1 := by
  simp only [State.setDE]
@[simp] theorem State.setDE_p2 (s : State) (v : Word) : (s.setDE v).p2 = s.p2 := by
  simp only [State.setDE]
@[simp] theorem State.setDE_srHi (s : State) (v : Word) : (s.setDE v).srHi = s.srHi := by
  simp only [State.setDE]
@[simp] theorem State.setDE_srLo (s : State) (v : Word) : (s.setDE v).srLo = s.srLo := by
  simp only [State.setDE]
@[simp] theorem State.setDE_srOff (s : State) (v : Word) : (s.setDE v).srOff = s.srOff := by
  simp only [State.setDE]
@[simp] theorem State.setDE_snd3 (s : State) (v : Word) : (s.setDE v).snd3 = s.snd3 := by
  simp only [State.setDE]
@[simp] theorem State.setDE_snd5 (s : State) (v : Word) : (s.setDE v).snd5 = s.snd5 := by
  simp only [State.setDE]
@[simp] theorem State.setDE_sound (s : State) (v : Word) : (s.setDE v).sound = s.sound := by
  simp only [State.setDE]
@[simp] theorem State.setDE_draws (s : State) (v : Word) : (s.setDE v).draws = s.draws := by
  simp only [State.setDE]
@[simp] theorem State.setDE_readByte (s : State) (v : Word) (y : Word) : (s.setDE v).readByte y = s.readByte y := by
  simp [State.readByte]

/-! ### `setHL` -/

@[simp] theorem State.setHL_a (s : State) (v : Word) : (s.setHL v).a = s.a := by
  simp only [State.setHL]
@[simp] theorem State.setHL_b (s : State) (v : Word) : (s.setHL v).b = s.b := by
  simp only [State.setHL]
@[simp] theorem State.setHL_c (s : State) (v : Word) : (s.setHL v).c = s.c := by
  simp only [State.setHL]
@[simp] theorem State.setHL_d (s : State) (v : Word) : (s.setHL v).d = s.d := by
  simp only [State.setHL]
@[simp] theorem State.setHL_e (s : State) (v : Word) : (s.setHL v).e = s.e := by
  simp only [State.setHL]
@[simp] theorem State.setHL_h (s : State) (v : Word) : (s.setHL v).h = hiByte v := by
  simp only [State.setHL]
@[simp] theorem State.setHL_l (s : State) (v : Word) : (s.setHL v).l = loByte v := by
  simp only [State.setHL]
@[simp] theorem State.setHL_f (s : State) (v : Word) : (s.setHL v).f = s.f := by
  simp only [State.setHL]
@[simp] theorem State.setHL_pc (s : State) (v : Word) : (s.setHL v).pc = s.pc := by
  simp only [State.setHL]
@[simp] theorem State.setHL_sp (s : State) (v : Word) : (s.setHL v).sp = s.sp := by
  simp only [State.setHL]
@[simp] theorem State.setHL_ie (s : State) (v : Word) : (s.setHL v).ie = s.ie := by
  simp only [State.setHL]
@[simp] theorem State.setHL_halt (s : State) (v : Word) : (s.setHL v).halt = s.halt := by
  simp only [State.setHL]
@[simp] theorem State.setHL_mem (s : State) (v : Word) : (s.setHL v).mem = s.mem := by
  simp only [State.setHL]
@[simp] theorem State.setHL_p1 (s : State) (v : Word) : (s.setHL v).p1 = s.p1 := by
  simp only [State.setHL]
@[simp] theorem State.setHL_p2 (s : State) (v : Word) : (s.setHL v).p2 = s.p2 := by
  simp only [State.setHL]
@[simp] theorem State.setHL_srHi (s : State) (v : Word) : (s.setHL v).srHi = s.srHi := by
  simp only [State.setHL]
@[simp] theorem State.setHL_srLo (s : State) (v : Word) : (s.setHL v).srLo = s.srLo := by
  simp only [State.setHL]
@[simp] theorem State.setHL_srOff (s : State) (v : Word) : (s.setHL v).srOff = s.srOff := by
  simp only [State.setHL]
@[simp] theorem State.setHL_snd3 (s : State) (v : Word) : (s.setHL v).snd3 = s.snd3 := by
  simp only [State.setHL]
@[simp] theorem State.setHL_snd5 (s : State) (v : Word) : (s.setHL v).snd5 = s.snd5 := by
  simp only [State.setHL]
@[simp] theorem State.setHL_sound (s : State) (v : Word) : (s.setHL v).sound = s.sound := by
  simp only [State.setHL]
@[simp] theorem State.setHL_draws (s : State) (v : Word) : (s.setHL v).draws = s.draws := by
  simp only [State.setHL]
@[simp] theorem State.setHL_readByte (s : State) (v : Word) (y : Word) : (s.setHL v).readByte y = s.readByte y := by
  simp [State.readByte]

/-! ### `setSP` -/

@[simp] theorem State.setSP_a (s : State) (v : Word) : (s.setSP v).a = s.a := by
  simp only [State.setSP]
@[simp] theorem State.setSP_b (s : State) (v : Word) : (s.setSP v).b = s.b := by
  simp only [State.setSP]
@[simp] theorem State.setSP_c (s : State) (v : Word) : (s.setSP v).c = s.c := by
  simp only [State.setSP]
@[simp] theorem State.setSP_d (s : State) (v : Word) : (s.setSP v).d = s.d := by
  simp only [State.setSP]
@[simp] theorem State.setSP_e (s : State) (v : Word) : (s.setSP v).e = s.e := by
  simp only [State.setSP]
@[simp] theorem State.setSP_h (s : State) (v : Word) : (s.setSP v).h = s.h := by
  simp only [State.setSP]
@[simp] theorem State.setSP_l (s : State) (v : Word) : (s.setSP v).l = s.l := by
  simp only [State.setSP]
@[simp] theorem State.setSP_f (s : State) (v : Word) : (s.setSP v).f = s.f := by
  simp only [State.setSP]
@[simp] theorem State.setSP_pc (s : State) (v : Word) : (s.setSP v).pc = s.pc := by
  simp only [State.setSP]
@[simp] theorem State.setSP_sp (s : State) (v : Word) : (s.setSP v).sp = v := by
  simp only [State.setSP]
@[simp] theorem State.setSP_ie (s : State) (v : Word) : (s.setSP v).ie = s.ie := by
  simp only [State.setSP]
@[simp] theorem State.setSP_halt (s : State) (v : Word) : (s.setSP v).halt = s.halt := by
  simp only [State.setSP]
@[simp] theorem State.setSP_mem (s : State) (v : Word) : (s.setSP v).mem = s.mem := by
  simp only [State.setSP]
@[simp] theorem State.setSP_p1 (s : State) (v : Word) : (s.setSP v).p1 = s.p1 := by
  simp only [State.setSP]
@[simp] theorem State.setSP_p2 (s : State) (v : Word) : (s.setSP v).p2 = s.p2 := by
  simp only [State.setSP]
@[simp] theorem State.setSP_srHi (s : State) (v : Word) : (s.setSP v).srHi = s.srHi := by
  simp only [State.setSP]
@[simp] theorem State.setSP_srLo (s : State) (v : Word) : (s.setSP v).srLo = s.srLo := by
  simp only [State.setSP]
@[simp] theorem State.setSP_srOff (s : State) (v : Word) : (s.setSP v).srOff = s.srOff := by
  simp only [State.setSP]
@[simp] theorem State.setSP_snd3 (s : State) (v : Word) : (s.setSP v).snd3 = s.snd3 := by
  simp only [State.setSP]
@[simp] theorem State.setSP_snd5 (s : State) (v : Word) : (s.setSP v).snd5 = s.snd5 := by
  simp only [State.setSP]
@[simp] theorem State.setSP_sound (s : State) (v : Word) : (s.setSP v).sound = s.sound := by
  simp only [State.setSP]
@[simp] theorem State.setSP_draws (s : State) (v : Word) : (s.setSP v).draws = s.draws := by
  simp only [State.setSP]
@[simp] theorem State.setSP_reg (s : State) (v : Word) (q : Reg) : (s.setSP v).reg q = s.reg q := by
  cases q <;> simp [State.reg]
@[simp] theorem State.setSP_readByte (s : State) (v : Word) (y : Word) : (s.setSP v).readByte y = s.readByte y := by
  simp [State.readByte]

/-! ### `setPSW` -/

@[simp] theorem State.setPSW_a (s : State) (v : Word) : (s.setPSW v).a = hiByte v := by
  simp only [State.setPSW]
@[simp] theorem State.setPSW_b (s : State) (v : Word) : (s.setPSW v).b = s.b := by
  simp only [State.setPSW]
@[simp] theorem State.setPSW_c (s : State) (v : Word) : (s.setPSW v).c = s.c := by
  simp only [State.setPSW]
@[simp] theorem State.setPSW_d (s : State) (v : Word) : (s.setPSW v).d = s.d := by
  simp only [State.setPSW]
@[simp] theorem State.setPSW_e (s : State) (v : Word) : (s.setPSW v).e = s.e := by
  simp only [State.setPSW]
@[simp] theorem State.setPSW_h (s : State) (v : Word) : (s.setPSW v).h = s.h := by
  simp only [State.setPSW]
@[simp] theorem State.setPSW_l (s : State) (v : Word) : (s.setPSW v).l = s.l := by
  simp only [State.setPSW]
@[simp] theorem State.setPSW_f (s : State) (v : Word) : (s.setPSW v).f = Flags.ofByte (loByte v) := by
  simp only [State.setPSW]
@[simp] theorem State.setPSW_pc (s : State) (v : Word) : (s.setPSW v).pc = s.pc := by
  simp only [State.setPSW]
@[simp] theorem State.setPSW_sp (s : State) (v : Word) : (s.setPSW v).sp = s.sp := by
  simp only [State.setPSW]
@[simp] theorem State.setPSW_ie (s : State) (v : Word) : (s.setPSW v).ie = s.ie := by
  simp only [State.setPSW]
@[simp] theorem State.setPSW_halt (s : State) (v : Word) : (s.setPSW v).halt = s.halt := by
  simp only [State.setPSW]
@[simp] theorem State.setPSW_mem (s : State) (v : Word) : (s.setPSW v).mem = s.mem := by
  simp only [State.setPSW]
@[simp] theorem State.setPSW_p1 (s : State) (v : Word) : (s.setPSW v).p1 = s.p1 := by
  simp only [State.setPSW]
@[simp] theorem State.setPSW_p2 (s : State) (v : Word) : (s.setPSW v).p2 = s.p2 := by
  simp only [State.setPSW]
@[simp] theorem State.setPSW_srHi (s : State) (v : Word) : (s.setPSW v).srHi = s.srHi := by
  simp only [State.setPSW]
@[simp] theorem State.setPSW_srLo (s : State) (v : Word) : (s.setPSW v).srLo = s.srLo := by
  simp only [State.setPSW]
@[simp] theorem State.setPSW_srOff (s : State) (v : Word) : (s.setPSW v).srOff = s.srOff := by
  simp only [State.setPSW]
@[simp] theorem State.setPSW_snd3 (s : State) (v : Word) : (s.setPSW v).snd3 = s.snd3 := by
  simp only [State.setPSW]
@[simp] theorem State.setPSW_snd5 (s : State) (v : Word) : (s.setPSW v).snd5 = s.snd5 := by
  simp only [State.setPSW]
@[simp] theorem State.setPSW_sound (s : State) (v : Word) : (s.setPSW v).sound = s.sound := by
  simp only [State.setPSW]
@[simp] theorem State.setPSW_draws (s : State) (v : Word) : (s.setPSW v).draws = s.draws := by
  simp only [State.setPSW]
@[simp] theorem State.setPSW_readByte (s : State) (v : Word) (y : Word) : (s.setPSW v).readByte y = s.readByte y := by
  simp [State.readByte]

/-! ### `jump` -/

@[simp] theorem State.jump_a (s : State) (v : Word) : (s.jump v).a = s.a := by
  simp only [State.jump]
@[simp] theorem State.jump_b (s : State) (v : Word) : (s.jump v).b = s.b := by
  simp only [State.jump]
@[simp] theorem State.jump_c (s : State) (v : Word) : (s.jump v).c = s.c := by
  simp only [State.jump]
@[simp] theorem State.jump_d (s : State) (v : Word) : (s.jump v).d = s.d := by
  simp only [State.jump]
@[simp] theorem State.jump_e (s : State) (v : Word) : (s.jump v).e = s.e := by
  simp only [State.jump]
@[simp] theorem State.jump_h (s : State) (v : Word) : (s.jump v).h = s.h := by
  simp only [State.jump]
@[simp] theorem State.jump_l (s : State) (v : Word) : (s.jump v).l = s.l := by
  simp only [State.jump]
@[simp] theorem State.jump_f (s : State) (v : Word) : (s.jump v).f = s.f := by
  simp only [State.jump]
@[simp] theorem State.jump_pc (s : State) (v : Word) : (s.jump v).pc = v := by
  simp only [State.jump]
@[simp] theorem State.jump_sp (s : State) (v : Word) : (s.jump v).sp = s.sp := by
  simp only [State.jump]
@[simp] theorem State.jump_ie (s : State) (v : Word) : (s.jump v).ie = s.ie := by
  simp only [State.jump]
@[simp] theorem State.jump_halt (s : State) (v : Word) : (s.jump v).halt = s.halt := by
  simp only [State.jump]
@[simp] theorem State.jump_mem (s : State) (v : Word) : (s.jump v).mem = s.mem := by
  simp only [State.jump]
@[simp] theorem State.jump_p1 (s : State) (v : Word) : (s.jump v).p1 = s.p1 := by
  simp only [State.jump]
@[simp] theorem State.jump_p2 (s : State) (v : Word) : (s.jump v).p2 = s.p2 := by
  simp only [State.jump]
@[simp] theorem State.jump_srHi (s : State) (v : Word) : (s.jump v).srHi = s.srHi := by
  simp only [State.jump]
@[simp] theorem State.jump_srLo (s : State) (v : Word) : (s.jump v).srLo = s.srLo := by
  simp only [State.jump]
@[simp] theorem State.jump_srOff (s : State) (v : Word) : (s.jump v).srOff = s.srOff := by
  simp only [State.jump]
@[simp] theorem State.jump_snd3 (s : State) (v : Word) : (s.jump v).snd3 = s.snd3 := by
  simp only [State.jump]
@[simp] theorem State.jump_snd5 (s : State) (v : Word) : (s.jump v).snd5 = s.snd5 := by
  simp only [State.jump]
@[simp] theorem State.jump_sound (s : State) (v : Word) : (s.jump v).sound = s.sound := by
  simp only [State.jump]
@[simp] theorem State.jump_draws (s : State) (v : Word) : (s.jump v).draws = s.draws := by
  simp only [State.jump]
@[simp] theorem State.jump_reg (s : State) (v : Word) (q : Reg) : (s.jump v).reg q = s.reg q := by
  cases q <;> simp [State.reg]
@[simp] theorem State.jump_readByte (s : State) (v : Word) (y : Word) : (s.jump v).readByte y = s.readByte y := by
  simp [State.readByte]

/-! ### `setIE` -/

@[simp] theorem State.setIE_a (s : State) (b : Bool) : (s.setIE b).a = s.a := by
  simp only [State.setIE]
@[simp] theorem State.setIE_b (s : State) (b : Bool) : (s.setIE b).b = s.b := by
  simp only [State.setIE]
@[simp] theorem State.setIE_c (s : State) (b : Bool) : (s.setIE b).c = s.c := by
  simp only [State.setIE]
@[simp] theorem State.setIE_d (s : State) (b : Bool) : (s.setIE b).d = s.d := by
  simp only [State.setIE]
@[simp] theorem State.setIE_e (s : State) (b : Bool) : (s.setIE b).e = s.e := by
  simp only [State.setIE]
@[simp] theorem State.setIE_h (s : State) (b : Bool) : (s.setIE b).h = s.h := by
  simp only [State.setIE]
@[simp] theorem State.setIE_l (s : State) (b : Bool) : (s.setIE b).l = s.l := by
  simp only [State.setIE]
@[simp] theorem State.setIE_f (s : State) (b : Bool) : (s.setIE b).f = s.f := by
  simp only [State.setIE]
@[simp] theorem State.setIE_pc (s : State) (b : Bool) : (s.setIE b).pc = s.pc := by
  simp only [State.setIE]
@[simp] theorem State.setIE_sp (s : State) (b : Bool) : (s.setIE b).sp = s.sp := by
  simp only [State.setIE]
@[simp] theorem State.setIE_ie (s : State) (b : Bool) : (s.setIE b).ie = b := by
  simp only [State.setIE]
@[simp] theorem State.setIE_halt (s : State) (b : Bool) : (s.setIE b).halt = s.halt := by
  simp only [State.setIE]
@[simp] theorem State.setIE_mem (s : State) (b : Bool) : (s.setIE b).mem = s.mem := by
  simp only [State.setIE]
@[simp] theorem State.setIE_p1 (s : State) (b : Bool) : (s.setIE b).p1 = s.p1 := by
  simp only [State.setIE]
@[simp] theorem State.setIE_p2 (s : State) (b : Bool) : (s.setIE b).p2 = s.p2 := by
  simp only [State.setIE]
@[simp] theorem State.setIE_srHi (s : State) (b : Bool) : (s.setIE b).srHi = s.srHi := by
  simp only [State.setIE]
@[simp] theorem State.setIE_srLo (s : State) (b : Bool) : (s.setIE b).srLo = s.srLo := by
  simp only [State.setIE]
@[simp] theorem State.setIE_srOff (s : State) (b : Bool) : (s.setIE b).srOff = s.srOff := by
  simp only [State.setIE]
@[simp] theorem State.setIE_snd3 (s : State) (b : Bool) : (s.setIE b).snd3 = s.snd3 := by
  simp only [State.setIE]
@[simp] theorem State.setIE_snd5 (s : State) (b : Bool) : (s.setIE b).snd5 = s.snd5 := by
  simp only [State.setIE]
@[simp] theorem State.setIE_sound (s : State) (b : Bool) : (s.setIE b).sound = s.sound := by
  simp only [State.setIE]
@[simp] theorem State.setIE_draws (s : State) (b : Bool) : (s.setIE b).draws = s.draws := by
  simp only [State.setIE]
@[simp] theorem State.setIE_reg (s : State) (b : Bool) (q : Reg) : (s.setIE b).reg q = s.reg q := by
  cases q <;> simp [State.reg]
@[simp] theorem State.setIE_readByte (s : State) (b : Bool) (y : Word) : (s.setIE b).readByte y = s.readByte y := by
  simp [State.readByte]

/-! ### `setHalt` -/

@[simp] theorem State.setHalt_a (s : State) (b : Bool) : (s.setHalt b).a = s.a := by
  simp only [State.setHalt]
@[simp] theorem State.setHalt_b (s : State) (b : Bool) : (s.setHalt b).b = s.b := by
  simp only [State.setHalt]
@[simp] theorem State.setHalt_c (s : State) (b : Bool) : (s.setHalt b).c = s.c := by
  simp only [State.setHalt]
@[simp] theorem State.setHalt_d (s : State) (b : Bool) : (s.setHalt b).d = s.d := by
  simp only [State.setHalt]
@[simp] theorem State.setHalt_e (s : State) (b : Bool) : (s.setHalt b).e = s.e := by
  simp only [State.setHalt]
@[simp] theorem State.setHalt_h (s : State) (b : Bool) : (s.setHalt b).h = s.h := by
  simp only [State.setHalt]
@[simp] theorem State.setHalt_l (s : State) (b : Bool) : (s.setHalt b).l = s.l := by
  simp only [State.setHalt]
@[simp] theorem State.setHalt_f (s : State) (b : Bool) : (s.setHalt b).f = s.f := by
  simp only [State.setHalt]
@[simp] theorem State.setHalt_pc (s : State) (b : Bool) : (s.setHalt b).pc = s.pc := by
  simp only [State.setHalt]
@[simp] theorem State.setHalt_sp (s : State) (b : Bool) : (s.setHalt b).sp = s.sp := by
  simp only [State.setHalt]
@[simp] theorem State.setHalt_ie (s : State) (b : Bool) : (s.setHalt b).ie = s.ie := by
  simp only [State.setHalt]
@[simp] theorem State.setHalt_halt (s : State) (b : Bool) : (s.setHalt b).halt = b := by
  simp only [State.setHalt]
@[simp] theorem State.setHalt_mem (s : State) (b : Bool) : (s.setHalt b).mem = s.mem := by
  simp only [State.setHalt]
@[simp] theorem State.setHalt_p1 (s : State) (b : Bool) : (s.setHalt b).p1 = s.p1 := by
  simp only [State.setHalt]
@[simp] theorem State.setHalt_p2 (s : State) (b : Bool) : (s.setHalt b).p2 = s.p2 := by
  simp only [State.setHalt]
@[simp] theorem State.setHalt_srHi (s : State) (b : Bool) : (s.setHalt b).srHi = s.srHi := by
  simp only [State.setHalt]
@[simp] theorem State.setHalt_srLo (s : State) (b : Bool) : (s.setHalt b).srLo = s.srLo := by
  simp only [State.setHalt]
@[simp] theorem State.setHalt_srOff (s : State) (b : Bool) : (s.setHalt b).srOff = s.srOff := by
  simp only [State.setHalt]
@[simp] theorem State.setHalt_snd3 (s : State) (b : Bool) : (s.setHalt b).snd3 = s.snd3 := by
  simp only [State.setHalt]
@[simp] theorem State.setHalt_snd5 (s : State) (b : Bool) : (s.setHalt b).snd5 = s.snd5 := by
  simp only [State.setHalt]
@[simp] theorem State.setHalt_sound (s : State) (b : Bool) : (s.setHalt b).sound = s.sound := by
  simp only [State.setHalt]
@[simp] theorem State.setHalt_draws (s : State) (b : Bool) : (s.setHalt b).draws = s.draws := by
  simp only [State.setHalt]
@[simp] theorem State.setHalt_reg (s : State) (b : Bool) (q : Reg) : (s.setHalt b).reg q = s.reg q := by
  cases q <;> simp [State.reg]
@[simp] theorem State.setHalt_readByte (s : State) (b : Bool) (y : Word) : (s.setHalt b).readByte y = s.readByte y := by
  simp [State.readByte]

/-! ### `advance` -/

@[simp] theorem State.advance_a (s : State) (n : Nat) : (s.advance n).a = s.a := by
  simp [State.advance]
@[simp] theorem State.advance_b (s : State) (n : Nat) : (s.advance n).b = s.b := by
  simp [State.advance]
@[simp] theorem State.advance_c (s : State) (n : Nat) : (s.advance n).c = s.c := by
  simp [State.advance]
@[simp] theorem State.advance_d (s : State) (n : Nat) : (s.advance n).d = s.d := by
  simp [State.advance]
@[simp] theorem State.advance_e (s : State) (n : Nat) : (s.advance n).e = s.e := by
  simp [State.advance]
@[simp] theorem State.advance_h (s : State) (n : Nat) : (s.advance n).h = s.h := by
  simp [State.advance]
@[simp] theorem State.advance_l (s : State) (n : Nat) : (s.advance n).l = s.l := by
  simp [State.advance]
@[simp] theorem State.advance_f (s : State) (n : Nat) : (s.advance n).f = s.f := by
  simp [State.advance]
@[simp] theorem State.advance_pc (s : State) (n : Nat) : (s.advance n).pc = s.pc + BitVec.ofNat 16 n := by
  simp [State.advance]
@[simp] theorem State.advance_sp (s : State) (n : Nat) : (s.advance n).sp = s.sp := by
  simp [State.advance]
@[simp] theorem State.advance_ie (s : State) (n : Nat) : (s.advance n).ie = s.ie := by
  simp [State.advance]
@[simp] theorem State.advance_halt (s : State) (n : Nat) : (s.advance n).halt = s.halt := by
  simp [State.advance]
@[simp] theorem State.advance_mem (s : State) (n : Nat) : (s.advance n).mem = s.mem := by
  simp [State.advance]
@[simp] theorem State.advance_p1 (s : State) (n : Nat) : (s.advance n).p1 = s.p1 := by
  simp [State.advance]
@[simp] theorem State.advance_p2 (s : State) (n : Nat) : (s.advance n).p2 = s.p2 := by
  simp [State.advance]
@[simp] theorem State.advance_srHi (s : State) (n : Nat) : (s.advance n).srHi = s.srHi := by
  simp [State.advance]
@[simp] theorem State.advance_srLo (s : State) (n : Nat) : (s.advance n).srLo = s.srLo := by
  simp [State.advance]
@[simp] theorem State.advance_srOff (s : State) (n : Nat) : (s.advance n).srOff = s.srOff := by
  simp [State.advance]
@[simp] theorem State.advance_snd3 (s : State) (n : Nat) : (s.advance n).snd3 = s.snd3 := by
  simp [State.advance]
@[simp] theorem State.advance_snd5 (s : State) (n : Nat) : (s.advance n).snd5 = s.snd5 := by
  simp [State.advance]
@[simp] theorem State.advance_sound (s : State) (n : Nat) : (s.advance n).sound = s.sound := by
  simp [State.advance]
@[simp] theorem State.advance_draws (s : State) (n : Nat) : (s.advance n).draws = s.draws := by
  simp [State.advance]
@[simp] theorem State.advance_reg (s : State) (n : Nat) (q : Reg) : (s.advance n).reg q = s.reg q := by
  cases q <;> simp [State.reg]
@[simp] theorem State.advance_readByte (s : State) (n : Nat) (y : Word) : (s.advance n).readByte y = s.readByte y := by
  simp [State.readByte]

/-! ### `writeByte` -/

@[simp] theorem State.writeByte_a (s : State) (x : Word) (v : Byte) : (s.writeByte x v).a = s.a := by
  simp only [State.writeByte]
@[simp] theorem State.writeByte_b (s : State) (x : Word) (v : Byte) : (s.writeByte x v).b = s.b := by
  simp only [State.writeByte]
@[simp] theorem State.writeByte_c (s : State) (x : Word) (v : Byte) : (s.writeByte x v).c = s.c := by
  simp only [State.writeByte]
@[simp] theorem State.writeByte_d (s : State) (x : Word) (v : Byte) : (s.writeByte x v).d = s.d := by
  simp only [State.writeByte]
@[simp] theorem State.writeByte_e (s : State) (x : Word) (v : Byte) : (s.writeByte x v).e = s.e := by
  simp only [State.writeByte]
@[simp] theorem State.writeByte_h (s : State) (x : Word) (v : Byte) : (s.writeByte x v).h = s.h := by
  simp only [State.writeByte]
@[simp] theorem State.writeByte_l (s : State) (x : Word) (v : Byte) : (s.writeByte x v).l = s.l := by
  simp only [State.writeByte]
@[simp] theorem State.writeByte_f (s : State) (x : Word) (v : Byte) : (s.writeByte x v).f = s.f := by
  simp only [State.writeByte]
@[simp] theorem State.writeByte_pc (s : State) (x : Word) (v : Byte) : (s.writeByte x v).pc = s.pc := by
  simp only [State.writeByte]
@[simp] theorem State.writeByte_sp (s : State) (x : Word) (v : Byte) : (s.writeByte x v).sp = s.sp := by
  simp only [State.writeByte]
@[simp] theorem State.writeByte_ie (s : State) (x : Word) (v : Byte) : (s.writeByte x v).ie = s.ie := by
  simp only [State.writeByte]
@[simp] theorem State.writeByte_halt (s : State) (x : Word) (v : Byte) : (s.writeByte x v).halt = s.halt := by
  simp only [State.writeByte]
@[simp] theorem State.writeByte_mem (s : State) (x : Word) (v : Byte) : (s.writeByte x v).mem = s.mem.write x.toNat v := by
  simp only [State.writeByte]
@[simp] theorem State.writeByte_p1 (s : State) (x : Word) (v : Byte) : (s.writeByte x v).p1 = s.p1 := by
  simp only [State.writeByte]
@[simp] theorem State.writeByte_p2 (s : State) (x : Word) (v : Byte) : (s.writeByte x v).p2 = s.p2 := by
  simp only [State.writeByte]
@[simp] theorem State.writeByte_srHi (s : State) (x : Word) (v : Byte) : (s.writeByte x v).srHi = s.srHi := by
  simp only [State.writeByte]
@[simp] theorem State.writeByte_srLo (s : State) (x : Word) (v : Byte) : (s.writeByte x v).srLo = s.srLo := by
  simp only [State.writeByte]
@[simp] theorem State.writeByte_srOff (s : State) (x : Word) (v : Byte) : (s.writeByte x v).srOff = s.srOff := by
  simp only [State.writeByte]
@[simp] theorem State.writeByte_snd3 (s : State) (x : Word) (v : Byte) : (s.writeByte x v).snd3 = s.snd3 := by
  simp only [State.writeByte]
@[simp] theorem State.writeByte_snd5 (s : State) (x : Word) (v : Byte) : (s.writeByte x v).snd5 = s.snd5 := by
  simp only [State.writeByte]
@[simp] theorem State.writeByte_sound (s : State) (x : Word) (v : Byte) : (s.writeByte x v).sound = s.sound := by
  simp only [State.writeByte]
@[simp] theorem State.writeByte_draws (s : State) (x : Word) (v : Byte) : (s.writeByte x v).draws = s.draws := by
  simp only [State.writeByte]
@[simp] theorem State.writeByte_reg (s : State) (x : Word) (v : Byte) (q : Reg) : (s.writeByte x v).reg q = s.reg q := by
  cases q <;> simp [State.reg]

/-! ### `writeWord` -/

@[simp] theorem State.writeWord_a (s : State) (x v : Word) : (s.writeWord x v).a = s.a := by
  simp [State.writeWord]
@[simp] theorem State.writeWord_b (s : State) (x v : Word) : (s.writeWord x v).b = s.b := by
  simp [State.writeWord]
@[simp] theorem State.writeWord_c (s : State) (x v : Word) : (s.writeWord x v).c = s.c := by
  simp [State.writeWord]
@[simp] theorem State.writeWord_d (s : State) (x v : Word) : (s.writeWord x v).d = s.d := by
  simp [State.writeWord]
@[simp] theorem State.writeWord_e (s : State) (x v : Word) : (s.writeWord x v).e = s.e := by
  simp [State.writeWord]
@[simp] theorem State.writeWord_h (s : State) (x v : Word) : (s.writeWord x v).h = s.h := by
  simp [State.writeWord]
@[simp] theorem State.writeWord_l (s : State) (x v : Word) : (s.writeWord x v).l = s.l := by
  simp [State.writeWord]
@[simp] theorem State.writeWord_f (s : State) (x v : Word) : (s.writeWord x v).f = s.f := by
  simp [State.writeWord]
@[simp] theorem State.writeWord_pc (s : State) (x v : Word) : (s.writeWord x v).pc = s.pc := by
  simp [State.writeWord]
@[simp] theorem State.writeWord_sp (s : State) (x v : Word) : (s.writeWord x v).sp = s.sp := by
  simp [State.writeWord]
@[simp] theorem State.writeWord_ie (s : State) (x v : Word) : (s.writeWord x v).ie = s.ie := by
  simp [State.writeWord]
@[simp] theorem State.writeWord_halt (s : State) (x v : Word) : (s.writeWord x v).halt = s.halt := by
  simp [State.writeWord]
@[simp] theorem State.writeWord_mem (s : State) (x v : Word) : (s.writeWord x v).mem = (s.mem.write x.toNat (loByte v)).write (x + 1).toNat (hiByte v) := by
  simp [State.writeWord]
@[simp] theorem State.writeWord_p1 (s : State) (x v : Word) : (s.writeWord x v).p1 = s.p1 := by
  simp [State.writeWord]
@[simp] theorem State.writeWord_p2 (s : State) (x v : Word) : (s.writeWord x v).p2 = s.p2 := by
  simp [State.writeWord]
@[simp] theorem State.writeWord_srHi (s : State) (x v : Word) : (s.writeWord x v).srHi = s.srHi := by
  simp [State.writeWord]
@[simp] theorem State.writeWord_srLo (s : State) (x v : Word) : (s.writeWord x v).srLo = s.srLo := by
  simp [State.writeWord]
@[simp] theorem State.writeWord_srOff (s : State) (x v : Word) : (s.writeWord x v).srOff = s.srOff := by
  simp [State.writeWord]
@[simp] theorem State.writeWord_snd3 (s : State) (x v : Word) : (s.writeWord x v).snd3 = s.snd3 := by
  simp [State.writeWord]
@[simp] theorem State.writeWord_snd5 (s : State) (x v : Word) : (s.writeWord x v).snd5 = s.snd5 := by
  simp [State.writeWord]
@[simp] theorem State.writeWord_sound (s : State) (x v : Word) : (s.writeWord x v).sound = s.sound := by
  simp [State.writeWord]
@[simp] theorem State.writeWord_draws (s : State) (x v : Word) : (s.writeWord x v).draws = s.draws := by
  simp [State.writeWord]
@[simp] theorem State.writeWord_reg (s : State) (x v : Word) (q : Reg) : (s.writeWord x v).reg q = s.reg q := by
  cases q <;> simp [State.reg]

/-! ### `push16` -/

@[simp] theorem State.push16_a (s : State) (v : Word) : (s.push16 v).a = s.a := by
  simp [State.push16]
@[simp] theorem State.push16_b (s : State) (v : Word) : (s.push16 v).b = s.b := by
  simp [State.push16]
@[simp] theorem State.push16_c (s : State) (v : Word) : (s.push16 v).c = s.c := by
  simp [State.push16]
@[simp] theorem State.push16_d (s : State) (v : Word) : (s.push16 v).d = s.d := by
  simp [State.push16]
@[simp] theorem State.push16_e (s : State) (v : Word) : (s.push16 v).e = s.e := by
  simp [State.push16]
@[simp] theorem State.push16_h (s : State) (v : Word) : (s.push16 v).h = s.h := by
  simp [State.push16]
@[simp] theorem State.push16_l (s : State) (v : Word) : (s.push16 v).l = s.l := by
  simp [State.push16]
@[simp] theorem State.push16_f (s : State) (v : Word) : (s.push16 v).f = s.f := by
  simp [State.push16]
@[simp] theorem State.push16_pc (s : State) (v : Word) : (s.push16 v).pc = s.pc := by
  simp [State.push16]
@[simp] theorem State.push16_sp (s : State) (v : Word) : (s.push16 v).sp = s.sp - 2 := by
  simp [State.push16]
@[simp] theorem State.push16_ie (s : State) (v : Word) : (s.push16 v).ie = s.ie := by
  simp [State.push16]
@[simp] theorem State.push16_halt (s : State) (v : Word) : (s.push16 v).halt = s.halt := by
  simp [State.push16]
@[simp] theorem State.push16_mem (s : State) (v : Word) : (s.push16 v).mem = (s.mem.write (s.sp - 1).toNat (hiByte v)).write (s.sp - 2).toNat (loByte v) := by
  simp [State.push16]
@[simp] theorem State.push16_p1 (s : State) (v : Word) : (s.push16 v).p1 = s.p1 := by
  simp [State.push16]
@[simp] theorem State.push16_p2 (s : State) (v : Word) : (s.push16 v).p2 = s.p2 := by
  simp [State.push16]
@[simp] theorem State.push16_srHi (s : State) (v : Word) : (s.push16 v).srHi = s.srHi := by
  simp [State.push16]
@[simp] theorem State.push16_srLo (s : State) (v : Word) : (s.push16 v).srLo = s.srLo := by
  simp [State.push16]
@[simp] theorem State.push16_srOff (s : State) (v : Word) : (s.push16 v).srOff = s.srOff := by
  simp [State.push16]
@[simp] theorem State.push16_snd3 (s : State) (v : Word) : (s.push16 v).snd3 = s.snd3 := by
  simp [State.push16]
@[simp] theorem State.push16_snd5 (s : State) (v : Word) : (s.push16 v).snd5 = s.snd5 := by
  simp [State.push16]
@[simp] theorem State.push16_sound (s : State) (v : Word) : (s.push16 v).sound = s.sound := by
  simp [State.push16]
@[simp] theorem State.push16_draws (s : State) (v : Word) : (s.push16 v).draws = s.draws := by
  simp [State.push16]
@[simp] theorem State.push16_reg (s : State) (v : Word) (q : Reg) : (s.push16 v).reg q = s.reg q := by
  cases q <;> simp [State.reg]

/-! ### `drop16` -/

@[simp] theorem State.drop16_a (s : State) : (s.drop16).a = s.a := by
  simp [State.drop16]
@[simp] theorem State.drop16_b (s : State) : (s.drop16).b = s.b := by
  simp [State.drop16]
@[simp] theorem State.drop16_c (s : State) : (s.drop16).c = s.c := by
  simp [State.drop16]
@[simp] theorem State.drop16_d (s : State) : (s.drop16).d = s.d := by
  simp [State.drop16]
@[simp] theorem State.drop16_e (s : State) : (s.drop16).e = s.e := by
  simp [State.drop16]
@[simp] theorem State.drop16_h (s : State) : (s.drop16).h = s.h := by
  simp [State.drop16]
@[simp] theorem State.drop16_l (s : State) : (s.drop16).l = s.l := by
  simp [State.drop16]
@[simp] theorem State.drop16_f (s : State) : (s.drop16).f = s.f := by
  simp [State.drop16]
@[simp] theorem State.drop16_pc (s : State) : (s.drop16).pc = s.pc := by
  simp [State.drop16]
@[simp] theorem State.drop16_sp (s : State) : (s.drop16).sp = s.sp + 2 := by
  simp [State.drop16]
@[simp] theorem State.drop16_ie (s : State) : (s.drop16).ie = s.ie := by
  simp [State.drop16]
@[simp] theorem State.drop16_halt (s : State) : (s.drop16).halt = s.halt := by
  simp [State.drop16]
@[simp] theorem State.drop16_mem (s : State) : (s.drop16).mem = s.mem := by
  simp [State.drop16]
@[simp] theorem State.drop16_p1 (s : State) : (s.drop16).p1 = s.p1 := by
  simp [State.drop16]
@[simp] theorem State.drop16_p2 (s : State) : (s.drop16).p2 = s.p2 := by
  simp [State.drop16]
@[simp] theorem State.drop16_srHi (s : State) : (s.drop16).srHi = s.srHi := by
  simp [State.drop16]
@[simp] theorem State.drop16_srLo (s : State) : (s.drop16).srLo = s.srLo := by
  simp [State.drop16]
@[simp] theorem State.drop16_srOff (s : State) : (s.drop16).srOff = s.srOff := by
  simp [State.drop16]
@[simp] theorem State.drop16_snd3 (s : State) : (s.drop16).snd3 = s.snd3 := by
  simp [State.drop16]
@[simp] theorem State.drop16_snd5 (s : State) : (s.drop16).snd5 = s.snd5 := by
  simp [State.drop16]
@[simp] theorem State.drop16_sound (s : State) : (s.drop16).sound = s.sound := by
  simp [State.drop16]
@[simp] theorem State.drop16_draws (s : State) : (s.drop16).draws = s.draws := by
  simp [State.drop16]
@[simp] theorem State.drop16_reg (s : State) (q : Reg) : (s.drop16).reg q = s.reg q := by
  cases q <;> simp [State.reg]
@[simp] theorem State.drop16_readByte (s : State) (y : Word) : (s.drop16).readByte y = s.readByte y := by
  simp [State.readByte]

/-! ### `returnFrom` -/

@[simp] theorem State.returnFrom_a (s : State) : (s.returnFrom).a = s.a := by
  simp [State.returnFrom]
@[simp] theorem State.returnFrom_b (s : State) : (s.returnFrom).b = s.b := by
  simp [State.returnFrom]
@[simp] theorem State.returnFrom_c (s : State) : (s.returnFrom).c = s.c := by
  simp [State.returnFrom]
@[simp] theorem State.returnFrom_d (s : State) : (s.returnFrom).d = s.d := by
  simp [State.returnFrom]
@[simp] theorem State.returnFrom_e (s : State) : (s.returnFrom).e = s.e := by
  simp [State.returnFrom]
@[simp] theorem State.returnFrom_h (s : State) : (s.returnFrom).h = s.h := by
  simp [State.returnFrom]
@[simp] theorem State.returnFrom_l (s : State) : (s.returnFrom).l = s.l := by
  simp [State.returnFrom]
@[simp] theorem State.returnFrom_f (s : State) : (s.returnFrom).f = s.f := by
  simp [State.returnFrom]
@[simp] theorem State.returnFrom_pc (s : State) : (s.returnFrom).pc = s.top16 := by
  simp [State.returnFrom]
@[simp] theorem State.returnFrom_sp (s : State) : (s.returnFrom).sp = s.sp + 2 := by
  simp [State.returnFrom]
@[simp] theorem State.returnFrom_ie (s : State) : (s.returnFrom).ie = s.ie := by
  simp [State.returnFrom]
@[simp] theorem State.returnFrom_halt (s : State) : (s.returnFrom).halt = s.halt := by
  simp [State.returnFrom]
@[simp] theorem State.returnFrom_mem (s : State) : (s.returnFrom).mem = s.mem := by
  simp [State.returnFrom]
@[simp] theorem State.returnFrom_p1 (s : State) : (s.returnFrom).p1 = s.p1 := by
  simp [State.returnFrom]
@[simp] theorem State.returnFrom_p2 (s : State) : (s.returnFrom).p2 = s.p2 := by
  simp [State.returnFrom]
@[simp] theorem State.returnFrom_srHi (s : State) : (s.returnFrom).srHi = s.srHi := by
  simp [State.returnFrom]
@[simp] theorem State.returnFrom_srLo (s : State) : (s.returnFrom).srLo = s.srLo := by
  simp [State.returnFrom]
@[simp] theorem State.returnFrom_srOff (s : State) : (s.returnFrom).srOff = s.srOff := by
  simp [State.returnFrom]
@[simp] theorem State.returnFrom_snd3 (s : State) : (s.returnFrom).snd3 = s.snd3 := by
  simp [State.returnFrom]
@[simp] theorem State.returnFrom_snd5 (s : State) : (s.returnFrom).snd5 = s.snd5 := by
  simp [State.returnFrom]
@[simp] theorem State.returnFrom_sound (s : State) : (s.returnFrom).sound = s.sound := by
  simp [State.returnFrom]
@[simp] theorem State.returnFrom_draws (s : State) : (s.returnFrom).draws = s.draws := by
  simp [State.returnFrom]
@[simp] theorem State.returnFrom_reg (s : State) (q : Reg) : (s.returnFrom).reg q = s.reg q := by
  cases q <;> simp [State.reg]
@[simp] theorem State.returnFrom_readByte (s : State) (y : Word) : (s.returnFrom).readByte y = s.readByte y := by
  simp [State.readByte]

/-! ### `enterVector` -/

@[simp] theorem State.enterVector_a (s : State) (n : Nat) (r : Word) : (s.enterVector n r).a = s.a := by
  simp [State.enterVector]
@[simp] theorem State.enterVector_b (s : State) (n : Nat) (r : Word) : (s.enterVector n r).b = s.b := by
  simp [State.enterVector]
@[simp] theorem State.enterVector_c (s : State) (n : Nat) (r : Word) : (s.enterVector n r).c = s.c := by
  simp [State.enterVector]
@[simp] theorem State.enterVector_d (s : State) (n : Nat) (r : Word) : (s.enterVector n r).d = s.d := by
  simp [State.enterVector]
@[simp] theorem State.enterVector_e (s : State) (n : Nat) (r : Word) : (s.enterVector n r).e = s.e := by
  simp [State.enterVector]
@[simp] theorem State.enterVector_h (s : State) (n : Nat) (r : Word) : (s.enterVector n r).h = s.h := by
  simp [State.enterVector]
@[simp] theorem State.enterVector_l (s : State) (n : Nat) (r : Word) : (s.enterVector n r).l = s.l := by
  simp [State.enterVector]
@[simp] theorem State.enterVector_f (s : State) (n : Nat) (r : Word) : (s.enterVector n r).f = s.f := by
  simp [State.enterVector]
@[simp] theorem State.enterVector_pc (s : State) (n : Nat) (r : Word) : (s.enterVector n r).pc = BitVec.ofNat 16 (8 * n) := by
  simp [State.enterVector]
@[simp] theorem State.enterVector_sp (s : State) (n : Nat) (r : Word) : (s.enterVector n r).sp = s.sp - 2 := by
  simp [State.enterVector]
@[simp] theorem State.enterVector_ie (s : State) (n : Nat) (r : Word) : (s.enterVector n r).ie = s.ie := by
  simp [State.enterVector]
@[simp] theorem State.enterVector_halt (s : State) (n : Nat) (r : Word) : (s.enterVector n r).halt = s.halt := by
  simp [State.enterVector]
@[simp] theorem State.enterVector_mem (s : State) (n : Nat) (r : Word) : (s.enterVector n r).mem = (s.mem.write (s.sp - 1).toNat (hiByte r)).write (s.sp - 2).toNat (loByte r) := by
  simp [State.enterVector]
@[simp] theorem State.enterVector_p1 (s : State) (n : Nat) (r : Word) : (s.enterVector n r).p1 = s.p1 := by
  simp [State.enterVector]
@[simp] theorem State.enterVector_p2 (s : State) (n : Nat) (r : Word) : (s.enterVector n r).p2 = s.p2 := by
  simp [State.enterVector]
@[simp] theorem State.enterVector_srHi (s : State) (n : Nat) (r : Word) : (s.enterVector n r).srHi = s.srHi := by
  simp [State.enterVector]
@[simp] theorem State.enterVector_srLo (s : State) (n : Nat) (r : Word) : (s.enterVector n r).srLo = s.srLo := by
  simp [State.enterVector]
@[simp] theorem State.enterVector_srOff (s : State) (n : Nat) (r : Word) : (s.enterVector n r).srOff = s.srOff := by
  simp [State.enterVector]
@[simp] theorem State.enterVector_snd3 (s : State) (n : Nat) (r : Word) : (s.enterVector n r).snd3 = s.snd3 := by
  simp [State.enterVector]
@[simp] theorem State.enterVector_snd5 (s : State) (n : Nat) (r : Word) : (s.enterVector n r).snd5 = s.snd5 := by
  simp [State.enterVector]
@[simp] theorem State.enterVector_sound (s : State) (n : Nat) (r : Word) : (s.enterVector n r).sound = s.sound := by
  simp [State.enterVector]
@[simp] theorem State.enterVector_draws (s : State) (n : Nat) (r : Word) : (s.enterVector n r).draws = s.draws := by
  simp [State.enterVector]
@[simp] theorem State.enterVector_reg (s : State) (n : Nat) (r : Word) (q : Reg) : (s.enterVector n r).reg q = s.reg q := by
  cases q <;> simp [State.reg]

/-! ### `portOut` -/

@[simp] theorem State.portOut_a (s : State) (port v : Byte) : (s.portOut port v).a = s.a := by
  unfold State.portOut
  split_ifs <;> rfl
@[simp] theorem State.portOut_b (s : State) (port v : Byte) : (s.portOut port v).b = s.b := by
  unfold State.portOut
  split_ifs <;> rfl
@[simp] theorem State.portOut_c (s : State) (port v : Byte) : (s.portOut port v).c = s.c := by
  unfold State.portOut
  split_ifs <;> rfl
@[simp] theorem State.portOut_d (s : State) (port v : Byte) : (s.portOut port v).d = s.d := by
  unfold State.portOut
  split_ifs <;> rfl
@[simp] theorem State.portOut_e (s : State) (port v : Byte) : (s.portOut port v).e = s.e := by
  unfold State.portOut
  split_ifs <;> rfl
@[simp] theorem State.portOut_h (s : State) (port v : Byte) : (s.portOut port v).h = s.h := by
  unfold State.portOut
  split_ifs <;> rfl
@[simp] theorem State.portOut_l (s : State) (port v : Byte) : (s.portOut port v).l = s.l := by
  unfold State.portOut
  split_ifs <;> rfl
@[simp] theorem State.portOut_f (s : State) (port v : Byte) : (s.portOut port v).f = s.f := by
  unfold State.portOut
  split_ifs <;> rfl
@[simp] theorem State.portOut_pc (s : State) (port v : Byte) : (s.portOut port v).pc = s.pc := by
  unfold State.portOut
  split_ifs <;> rfl
@[simp] theorem State.portOut_sp (s : State) (port v : Byte) : (s.portOut port v).sp = s.sp := by
  unfold State.portOut
  split_ifs <;> rfl
@[simp] theorem State.portOut_ie (s : State) (port v : Byte) : (s.portOut port v).ie = s.ie := by
  unfold State.portOut
  split_ifs <;> rfl
@[simp] theorem State.portOut_halt (s : State) (port v : Byte) : (s.portOut port v).halt = s.halt := by
  unfold State.portOut
  split_ifs <;> rfl
@[simp] theorem State.portOut_mem (s : State) (port v : Byte) : (s.portOut port v).mem = s.mem := by
  unfold State.portOut
  split_ifs <;> rfl
@[simp] theorem State.portOut_p1 (s : State) (port v : Byte) : (s.portOut port v).p1 = s.p1 := by
  unfold State.portOut
  split_ifs <;> rfl
@[simp] theorem State.portOut_p2 (s : State) (port v : Byte) : (s.portOut port v).p2 = s.p2 := by
  unfold State.portOut
  split_ifs <;> rfl
@[simp] theorem State.portOut_draws (s : State) (port v : Byte) : (s.portOut port v).draws = s.draws := by
  unfold State.portOut
  split_ifs <;> rfl
@[simp] theorem State.portOut_reg (s : State) (port v : Byte) (q : Reg) : (s.portOut port v).reg q = s.reg q := by
  cases q <;> simp [State.reg]
@[simp] theorem State.portOut_readByte (s : State) (port v : Byte) (y : Word) : (s.portOut port v).readByte y = s.readByte y := by
  simp [State.readByte]

/-! ### `afterPortIn` -/

@[simp] theorem State.afterPortIn_a (s : State) (port : Byte) : (s.afterPortIn port).a = s.a := by
  unfold State.afterPortIn
  split_ifs <;> rfl
@[simp] theorem State.afterPortIn_b (s : State) (port : Byte) : (s.afterPortIn port).b = s.b := by
  unfold State.afterPortIn
  split_ifs <;> rfl
@[simp] theorem State.afterPortIn_c (s : State) (port : Byte) : (s.afterPortIn port).c = s.c := by
  unfold State.afterPortIn
  split_ifs <;> rfl
@[simp] theorem State.afterPortIn_d (s : State) (port : Byte) : (s.afterPortIn port).d = s.d := by
  unfold State.afterPortIn
  split_ifs <;> rfl
@[simp] theorem State.afterPortIn_e (s : State) (port : Byte) : (s.afterPortIn port).e = s.e := by
  unfold State.afterPortIn
  split_ifs <;> rfl
@[simp] theorem State.afterPortIn_h (s : State) (port : Byte) : (s.afterPortIn port).h = s.h := by
  unfold State.afterPortIn
  split_ifs <;> rfl
@[simp] theorem State.afterPortIn_l (s : State) (port : Byte) : (s.afterPortIn port).l = s.l := by
  unfold State.afterPortIn
  split_ifs <;> rfl
@[simp] theorem State.afterPortIn_f (s : State) (port : Byte) : (s.afterPortIn port).f = s.f := by
  unfold State.afterPortIn
  split_ifs <;> rfl
@[simp] theorem State.afterPortIn_pc (s : State) (port : Byte) : (s.afterPortIn port).pc = s.pc := by
  unfold State.afterPortIn
  split_ifs <;> rfl
@[simp] theorem State.afterPortIn_sp (s : State) (port : Byte) : (s.afterPortIn port).sp = s.sp := by
  unfold State.afterPortIn
  split_ifs <;> rfl
@[simp] theorem State.afterPortIn_ie (s : State) (port : Byte) : (s.afterPortIn port).ie = s.ie := by
  unfold State.afterPortIn
  split_ifs <;> rfl
@[simp] theorem State.afterPortIn_halt (s : State) (port : Byte) : (s.afterPortIn port).halt = s.halt := by
  unfold State.afterPortIn
  split_ifs <;> rfl
@[simp] theorem State.afterPortIn_mem (s : State) (port : Byte) : (s.afterPortIn port).mem = s.mem := by
  unfold State.afterPortIn
  split_ifs <;> rfl
@[simp] theorem State.afterPortIn_p1 (s : State) (port : Byte) : (s.afterPortIn port).p1 = s.p1 := by
  unfold State.afterPortIn
  split_ifs <;> rfl
@[simp] theorem State.afterPortIn_p2 (s : State) (port : Byte) : (s.afterPortIn port).p2 = s.p2 := by
  unfold State.afterPortIn
  split_ifs <;> rfl
@[simp] theorem State.afterPortIn_srHi (s : State) (port : Byte) : (s.afterPortIn port).srHi = s.srHi := by
  unfold State.afterPortIn
  split_ifs <;> rfl
@[simp] theorem State.afterPortIn_srLo (s : State) (port : Byte) : (s.afterPortIn port).srLo = s.srLo := by
  unfold State.afterPortIn
  split_ifs <;> rfl
@[simp] theorem State.afterPortIn_srOff (s : State) (port : Byte) : (s.afterPortIn port).srOff = s.srOff := by
  unfold State.afterPortIn
  split_ifs <;> rfl
@[simp] theorem State.afterPortIn_snd3 (s : State) (port : Byte) : (s.afterPortIn port).snd3 = s.snd3 := by
  unfold State.afterPortIn
  split_ifs <;> rfl
@[simp] theorem State.afterPortIn_snd5 (s : State) (port : Byte) : (s.afterPortIn port).snd5 = s.snd5 := by
  unfold State.afterPortIn
  split_ifs <;> rfl
@[simp] theorem State.afterPortIn_sound (s : State) (port : Byte) : (s.afterPortIn port).sound = s.sound := by
  unfold State.afterPortIn
  split_ifs <;> rfl
@[simp] theorem State.afterPortIn_reg (s : State) (port : Byte) (q : Reg) : (s.afterPortIn port).reg q = s.reg q := by
  cases q <;> simp [State.reg]
@[simp] theorem State.afterPortIn_readByte (s : State) (port : Byte) (y : Word) : (s.afterPortIn port).readByte y = s.readByte y := by
  simp [State.readByte]

/-! ### `setReg` -/

@[simp] theorem State.setReg_a (s : State) (r : Reg) (v : Byte) : (s.setReg r v).a = if r = .a then v else s.a := by
  cases r <;> simp [State.setReg]
@[simp] theorem State.setReg_b (s : State) (r : Reg) (v : Byte) : (s.setReg r v).b = if r = .b then v else s.b := by
  cases r <;> simp [State.setReg]
@[simp] theorem State.setReg_c (s : State) (r : Reg) (v : Byte) : (s.setReg r v).c = if r = .c then v else s.c := by
  cases r <;> simp [State.setReg]
@[simp] theorem State.setReg_d (s : State) (r : Reg) (v : Byte) : (s.setReg r v).d = if r = .d then v else s.d := by
  cases r <;> simp [State.setReg]
@[simp] theorem State.setReg_e (s : State) (r : Reg) (v : Byte) : (s.setReg r v).e = if r = .e then v else s.e := by
  cases r <;> simp [State.setReg]
@[simp] theorem State.setReg_h (s : State) (r : Reg) (v : Byte) : (s.setReg r v).h = if r = .h then v else s.h := by
  cases r <;> simp [State.setReg]
@[simp] theorem State.setReg_l (s : State) (r : Reg) (v : Byte) : (s.setReg r v).l = if r = .l then v else s.l := by
  cases r <;> simp [State.setReg]
@[simp] theorem State.setReg_f (s : State) (r : Reg) (v : Byte) : (s.setReg r v).f = s.f := by
  cases r <;> simp [State.setReg]
@[simp] theorem State.setReg_pc (s : State) (r : Reg) (v : Byte) : (s.setReg r v).pc = s.pc := by
  cases r <;> simp [State.setReg]
@[simp] theorem State.setReg_sp (s : State) (r : Reg) (v : Byte) : (s.setReg r v).sp = s.sp := by
  cases r <;> simp [State.setReg]
@[simp] theorem State.setReg_ie (s : State) (r : Reg) (v : Byte) : (s.setReg r v).ie = s.ie := by
  cases r <;> simp [State.setReg]
@[simp] theorem State.setReg_halt (s : State) (r : Reg) (v : Byte) : (s.setReg r v).halt = s.halt := by
  cases r <;> simp [State.setReg]
@[simp] theorem State.setReg_mem (s : State) (r : Reg) (v : Byte) : (s.setReg r v).mem = s.mem := by
  cases r <;> simp [State.setReg]
@[simp] theorem State.setReg_p1 (s : State) (r : Reg) (v : Byte) : (s.setReg r v).p1 = s.p1 := by
  cases r <;> simp [State.setReg]
@[simp] theorem State.setReg_p2 (s : State) (r : Reg) (v : Byte) : (s.setReg r v).p2 = s.p2 := by
  cases r <;> simp [State.setReg]
@[simp] theorem State.setReg_srHi (s : State) (r : Reg) (v : Byte) : (s.setReg r v).srHi = s.srHi := by
  cases r <;> simp [State.setReg]
@[simp] theorem State.setReg_srLo (s : State) (r : Reg) (v : Byte) : (s.setReg r v).srLo = s.srLo := by
  cases r <;> simp [State.setReg]
@[simp] theorem State.setReg_srOff (s : State) (r : Reg) (v : Byte) : (s.setReg r v).srOff = s.srOff := by
  cases r <;> simp [State.setReg]
@[simp] theorem State.setReg_snd3 (s : State) (r : Reg) (v : Byte) : (s.setReg r v).snd3 = s.snd3 := by
  cases r <;> simp [State.setReg]
@[simp] theorem State.setReg_snd5 (s : State) (r : Reg) (v : Byte) : (s.setReg r v).snd5 = s.snd5 := by
  cases r <;> simp [State.setReg]
@[simp] theorem State.setReg_sound (s : State) (r : Reg) (v : Byte) : (s.setReg r v).sound = s.sound := by
  cases r <;> simp [State.setReg]
@[simp] theorem State.setReg_draws (s : State) (r : Reg) (v : Byte) : (s.setReg r v).draws = s.draws := by
  cases r <;> simp [State.setReg]
@[simp] theorem State.setReg_reg (s : State) (r q : Reg) (v : Byte) :
    (s.setReg r v).reg q = if q = r then v else s.reg q := by
  cases r <;> cases q <;> simp [State.reg]
@[simp] theorem State.setReg_readByte (s : State) (r : Reg) (v : Byte) (y : Word) :
    (s.setReg r v).readByte y = s.readByte y := by
  simp [State.readByte]

/-! ### `setLoc` -/

@[simp] theorem State.setLoc_f (s : State) (x : Loc) (v : Byte) : (s.setLoc x v).f = s.f := by
  cases x <;> simp [State.setLoc]
@[simp] theorem State.setLoc_pc (s : State) (x : Loc) (v : Byte) : (s.setLoc x v).pc = s.pc := by
  cases x <;> simp [State.setLoc]
@[simp] theorem State.setLoc_sp (s : State) (x : Loc) (v : Byte) : (s.setLoc x v).sp = s.sp := by
  cases x <;> simp [State.setLoc]
@[simp] theorem State.setLoc_ie (s : State) (x : Loc) (v : Byte) : (s.setLoc x v).ie = s.ie := by
  cases x <;> simp [State.setLoc]
@[simp] theorem State.setLoc_halt (s : State) (x : Loc) (v : Byte) : (s.setLoc x v).halt = s.halt := by
  cases x <;> simp [State.setLoc]
@[simp] theorem State.setLoc_p1 (s : State) (x : Loc) (v : Byte) : (s.setLoc x v).p1 = s.p1 := by
  cases x <;> simp [State.setLoc]
@[simp] theorem State.setLoc_p2 (s : State) (x : Loc) (v : Byte) : (s.setLoc x v).p2 = s.p2 := by
  cases x <;> simp [State.setLoc]
@[simp] theorem State.setLoc_srHi (s : State) (x : Loc) (v : Byte) : (s.setLoc x v).srHi = s.srHi := by
  cases x <;> simp [State.setLoc]
@[simp] theorem State.setLoc_srLo (s : State) (x : Loc) (v : Byte) : (s.setLoc x v).srLo = s.srLo := by
  cases x <;> simp [State.setLoc]
@[simp] theorem State.setLoc_srOff (s : State) (x : Loc) (v : Byte) : (s.setLoc x v).srOff = s.srOff := by
  cases x <;> simp [State.setLoc]
@[simp] theorem State.setLoc_snd3 (s : State) (x : Loc) (v : Byte) : (s.setLoc x v).snd3 = s.snd3 := by
  cases x <;> simp [State.setLoc]
@[simp] theorem State.setLoc_snd5 (s : State) (x : Loc) (v : Byte) : (s.setLoc x v).snd5 = s.snd5 := by
  cases x <;> simp [State.setLoc]
@[simp] theorem State.setLoc_sound (s : State) (x : Loc) (v : Byte) : (s.setLoc x v).sound = s.sound := by
  cases x <;> simp [State.setLoc]
@[simp] theorem State.setLoc_draws (s : State) (x : Loc) (v : Byte) : (s.setLoc x v).draws = s.draws := by
  cases x <;> simp [State.setLoc]

/-! ### `setPair` and `setStackPair` -/

@[simp] theorem State.setPair_f (s : State) (p : Pair) (v : Word) : (s.setPair p v).f = s.f := by
  cases p <;> simp [State.setPair]
@[simp] theorem State.setPair_pc (s : State) (p : Pair) (v : Word) : (s.setPair p v).pc = s.pc := by
  cases p <;> simp [State.setPair]
@[simp] theorem State.setPair_ie (s : State) (p : Pair) (v : Word) : (s.setPair p v).ie = s.ie := by
  cases p <;> simp [State.setPair]
@[simp] theorem State.setPair_halt (s : State) (p : Pair) (v : Word) : (s.setPair p v).halt = s.halt := by
  cases p <;> simp [State.setPair]
@[simp] theorem State.setPair_mem (s : State) (p : Pair) (v : Word) : (s.setPair p v).mem = s.mem := by
  cases p <;> simp [State.setPair]
@[simp] theorem State.setPair_p1 (s : State) (p : Pair) (v : Word) : (s.setPair p v).p1 = s.p1 := by
  cases p <;> simp [State.setPair]
@[simp] theorem State.setPair_p2 (s : State) (p : Pair) (v : Word) : (s.setPair p v).p2 = s.p2 := by
  cases p <;> simp [State.setPair]
@[simp] theorem State.setPair_srHi (s : State) (p : Pair) (v : Word) : (s.setPair p v).srHi = s.srHi := by
  cases p <;> simp [State.setPair]
@[simp] theorem State.setPair_srLo (s : State) (p : Pair) (v : Word) : (s.setPair p v).srLo = s.srLo := by
  cases p <;> simp [State.setPair]
@[simp] theorem State.setPair_srOff (s : State) (p : Pair) (v : Word) : (s.setPair p v).srOff = s.srOff := by
  cases p <;> simp [State.setPair]
@[simp] theorem State.setPair_snd3 (s : State) (p : Pair) (v : Word) : (s.setPair p v).snd3 = s.snd3 := by
  cases p <;> simp [State.setPair]
@[simp] theorem State.setPair_snd5 (s : State) (p : Pair) (v : Word) : (s.setPair p v).snd5 = s.snd5 := by
  cases p <;> simp [State.setPair]
@[simp] theorem State.setPair_sound (s : State) (p : Pair) (v : Word) : (s.setPair p v).sound = s.sound := by
  cases p <;> simp [State.setPair]
@[simp] theorem State.setPair_draws (s : State) (p : Pair) (v : Word) : (s.setPair p v).draws = s.draws := by
  cases p <;> simp [State.setPair]
@[simp] theorem State.setPair_readByte (s : State) (p : Pair) (v y : Word) : (s.setPair p v).readByte y = s.readByte y := by
  simp [State.readByte]
@[simp] theorem State.setStackPair_pc (s : State) (p : StackPair) (v : Word) : (s.setStackPair p v).pc = s.pc := by
  cases p <;> simp [State.setStackPair]
@[simp] theorem State.setStackPair_sp (s : State) (p : StackPair) (v : Word) : (s.setStackPair p v).sp = s.sp := by
  cases p <;> simp [State.setStackPair]
@[simp] theorem State.setStackPair_ie (s : State) (p : StackPair) (v : Word) : (s.setStackPair p v).ie = s.ie := by
  cases p <;> simp [State.setStackPair]
@[simp] theorem State.setStackPair_halt (s : State) (p : StackPair) (v : Word) : (s.setStackPair p v).halt = s.halt := by
  cases p <;> simp [State.setStackPair]
@[simp] theorem State.setStackPair_mem (s : State) (p : StackPair) (v : Word) : (s.setStackPair p v).mem = s.mem := by
  cases p <;> simp [State.setStackPair]
@[simp] theorem State.setStackPair_p1 (s : State) (p : StackPair) (v : Word) : (s.setStackPair p v).p1 = s.p1 := by
  cases p <;> simp [State.setStackPair]
@[simp] theorem State.setStackPair_p2 (s : State) (p : StackPair) (v : Word) : (s.setStackPair p v).p2 = s.p2 := by
  cases p <;> simp [State.setStackPair]
@[simp] theorem State.setStackPair_srHi (s : State) (p : StackPair) (v : Word) : (s.setStackPair p v).srHi = s.srHi := by
  cases p <;> simp [State.setStackPair]
@[simp] theorem State.setStackPair_srLo (s : State) (p : StackPair) (v : Word) : (s.setStackPair p v).srLo = s.srLo := by
  cases p <;> simp [State.setStackPair]
@[simp] theorem State.setStackPair_srOff (s : State) (p : StackPair) (v : Word) : (s.setStackPair p v).srOff = s.srOff := by
  cases p <;> simp [State.setStackPair]
@[simp] theorem State.setStackPair_snd3 (s : State) (p : StackPair) (v : Word) : (s.setStackPair p v).snd3 = s.snd3 := by
  cases p <;> simp [State.setStackPair]
@[simp] theorem State.setStackPair_snd5 (s : State) (p : StackPair) (v : Word) : (s.setStackPair p v).snd5 = s.snd5 := by
  cases p <;> simp [State.setStackPair]
@[simp] theorem State.setStackPair_sound (s : State) (p : StackPair) (v : Word) : (s.setStackPair p v).sound = s.sound := by
  cases p <;> simp [State.setStackPair]
@[simp] theorem State.setStackPair_draws (s : State) (p : StackPair) (v : Word) : (s.setStackPair p v).draws = s.draws := by
  cases p <;> simp [State.setStackPair]
@[simp] theorem State.setStackPair_readByte (s : State) (p : StackPair) (v y : Word) : (s.setStackPair p v).readByte y = s.readByte y := by
  simp [State.readByte]

end Sys2Proof.Machine
end

