-- ==== Sys2Proof/Laws/Ops.lean ====
section
/-! SUPPORT. Laws/Ops.lean: what each shared operation does, said once. -/

namespace Sys2Proof.Machine

/-! ### Memory through the state -/

@[simp] theorem State.writeByte_readByte (s : State) (x y : Word) (v : Byte) :
    (s.writeByte x v).readByte y = if y = x then v else s.readByte y := by
  simp only [State.readByte, State.writeByte_mem, Memory.read_write, BitVec.toNat_inj]

theorem State.writeWord_readByte (s : State) (x v y : Word) :
    (s.writeWord x v).readByte y =
      if y = x + 1 then hiByte v else if y = x then loByte v else s.readByte y := by
  simp [State.writeWord]

/-- A push writes the high byte at `SP-1` and the low byte at `SP-2` (R150). -/
theorem State.push16_readByte (s : State) (v y : Word) :
    (s.push16 v).readByte y =
      if y = s.sp - 2 then loByte v else if y = s.sp - 1 then hiByte v else s.readByte y := by
  simp [State.push16]

theorem State.enterVector_readByte (s : State) (n : Nat) (r y : Word) :
    (s.enterVector n r).readByte y =
      if y = s.sp - 2 then loByte r else if y = s.sp - 1 then hiByte r else s.readByte y := by
  simp [State.enterVector, State.push16_readByte]

@[simp] theorem State.advance_top16 (s : State) (n : Nat) : (s.advance n).top16 = s.top16 := by
  simp [State.top16, State.readWord]

@[simp] theorem State.jump_top16 (s : State) (v : Word) : (s.jump v).top16 = s.top16 := by
  simp [State.top16, State.readWord]

@[simp] theorem State.setIE_top16 (s : State) (b : Bool) : (s.setIE b).top16 = s.top16 := by
  simp [State.top16, State.readWord]

/-- What was pushed is on top (R152). -/
@[simp] theorem State.push16_top16 (s : State) (v : Word) : (s.push16 v).top16 = v := by
  have h1 : s.sp - 2 + 1 = s.sp - 1 := by bv_omega
  have h2 : s.sp - 1 ≠ s.sp - 2 := by bv_omega
  rw [State.top16, State.readWord, State.push16_sp, h1, State.push16_readByte, State.push16_readByte,
    if_neg h2, if_pos rfl, if_pos rfl, joinBytes_hiByte_loByte]

@[simp] theorem State.enterVector_top16 (s : State) (n : Nat) (r : Word) : (s.enterVector n r).top16 = r := by
  simp [State.enterVector]

/-! ### The canonical form is kept -/

theorem State.writeByte_wf (s : State) (x : Word) (v : Byte) (h : s.mem.wf = true) :
    (s.writeByte x v).mem.wf = true := by
  simpa using Memory.wf_write s.mem x.toNat v x.isLt h

theorem State.writeWord_wf (s : State) (x v : Word) (h : s.mem.wf = true) :
    (s.writeWord x v).mem.wf = true := by
  unfold State.writeWord
  exact State.writeByte_wf _ _ _ (State.writeByte_wf _ _ _ h)

theorem State.push16_wf (s : State) (v : Word) (h : s.mem.wf = true) :
    (s.push16 v).mem.wf = true := by
  simpa [State.push16] using
    State.writeByte_wf _ (s.sp - 2) (loByte v) (State.writeByte_wf s (s.sp - 1) (hiByte v) h)

theorem State.enterVector_wf (s : State) (n : Nat) (r : Word) (h : s.mem.wf = true) :
    (s.enterVector n r).mem.wf = true := by
  simpa [State.enterVector] using State.push16_wf s r h

theorem State.setLoc_wf (s : State) (x : Loc) (v : Byte) (h : s.mem.wf = true) :
    (s.setLoc x v).mem.wf = true := by
  cases x with
  | reg r => simpa [State.setLoc] using h
  | m => exact State.writeByte_wf _ _ _ h

/-! ### Interrupt delivery -/

/-- Everything a delivery can do (60_exceptions.md R402, R410). -/
theorem deliver_cases (vector : Nat) (s : State) :
    (7 < vector ∧ deliver vector s = .invalidVector) ∨
    (vector ≤ 7 ∧ s.ie = false ∧ deliver vector s = .ok s) ∨
    (vector ≤ 7 ∧ s.ie = true ∧ deliver vector s = .ok ((s.enterVector vector s.pc).setIE false)) := by
  unfold deliver
  by_cases h : vector > 7
  · exact .inl ⟨h, if_pos h⟩
  · rw [if_neg h]
    have h' : vector ≤ 7 := by omega
    cases hi : s.ie with
    | false => exact .inr (.inl ⟨h', rfl, if_pos rfl⟩)
    | true => exact .inr (.inr ⟨h', rfl, if_neg (by decide)⟩)

/-! ### The port bridge -/

/-- Everything a port read can do (R431). -/
theorem portIn_cases (s : State) (port : Byte) :
    (port = 1 ∧ s.portIn port = s.p1 ∧ s.afterPortIn port = s) ∨
    (port = 2 ∧ s.portIn port = s.p2 ∧ s.afterPortIn port = s) ∨
    (port = 3 ∧ s.portIn port = shiftWindow s.srHi s.srLo s.srOff ∧ s.afterPortIn port = s) ∨
    ((port ≠ 1 ∧ port ≠ 2 ∧ port ≠ 3) ∧ s.portIn port = Config.portInUnmapped s.draws ∧
      s.afterPortIn port = { s with draws := s.draws + 1 }) := by
  unfold State.portIn State.afterPortIn
  by_cases h1 : port = 1
  · exact .inl ⟨h1, if_pos h1, if_pos h1⟩
  · rw [if_neg h1, if_neg h1]
    by_cases h2 : port = 2
    · exact .inr (.inl ⟨h2, if_pos h2, if_pos h2⟩)
    · rw [if_neg h2, if_neg h2]
      by_cases h3 : port = 3
      · exact .inr (.inr (.inl ⟨h3, if_pos h3, if_pos h3⟩))
      · exact .inr (.inr (.inr ⟨⟨h1, h2, h3⟩, if_neg h3, if_neg h3⟩))

/-- Everything a port write can do (R432). -/
theorem portOut_cases (s : State) (port v : Byte) :
    (port = 2 ∧ s.portOut port v = { s with srOff := v.extractLsb' 0 3 }) ∨
    (port = 4 ∧ s.portOut port v = { s with srHi := v, srLo := s.srHi }) ∨
    (port = 3 ∧ s.portOut port v =
      { s with snd3 := v, sound := emitSound s.sound .port3 (risingBits s.snd3 v) }) ∨
    (port = 5 ∧ s.portOut port v =
      { s with snd5 := v, sound := emitSound s.sound .port5 (risingBits s.snd5 v) }) ∨
    ((port ≠ 2 ∧ port ≠ 3 ∧ port ≠ 4 ∧ port ≠ 5) ∧ s.portOut port v = s) := by
  unfold State.portOut
  by_cases h2 : port = 2
  · exact .inl ⟨h2, if_pos h2⟩
  · rw [if_neg h2]
    by_cases h4 : port = 4
    · exact .inr (.inl ⟨h4, if_pos h4⟩)
    · rw [if_neg h4]
      by_cases h3 : port = 3
      · exact .inr (.inr (.inl ⟨h3, if_pos h3⟩))
      · rw [if_neg h3]
        by_cases h5 : port = 5
        · exact .inr (.inr (.inr (.inl ⟨h5, if_pos h5⟩)))
        · exact .inr (.inr (.inr (.inr ⟨⟨h2, h3, h4, h5⟩, if_neg h5⟩)))

end Sys2Proof.Machine
end

