-- ==== Sys2Proof/Laws/PerInstr.lean ====
section
/-! SUPPORT. Laws/PerInstr.lean: the length rule, per instruction (30_encoding.md R92, R107): an instruction has as many
bytes as its opcode byte says. -/

namespace Sys2Proof.Laws.LengthRule

/-- The encoding begins with an opcode byte, and that byte alone gives its length. -/
def Statement (i : Instr) : Prop :=
  ∃ op operands, encode i = op :: operands ∧ (i.wellFormed → (encode i).length = opLength op)

theorem nop : Statement .nop := ⟨_, _, rfl, fun _ => rfl⟩
theorem lxiB (v : Word) : Statement (.lxiB v) := ⟨_, _, rfl, fun _ => rfl⟩
theorem staxB : Statement .staxB := ⟨_, _, rfl, fun _ => rfl⟩
theorem inxB : Statement .inxB := ⟨_, _, rfl, fun _ => rfl⟩
theorem inrB : Statement .inrB := ⟨_, _, rfl, fun _ => rfl⟩
theorem dcrB : Statement .dcrB := ⟨_, _, rfl, fun _ => rfl⟩
theorem mviB (v : Byte) : Statement (.mviB v) := ⟨_, _, rfl, fun _ => rfl⟩
theorem rlc : Statement .rlc := ⟨_, _, rfl, fun _ => rfl⟩
theorem dadB : Statement .dadB := ⟨_, _, rfl, fun _ => rfl⟩
theorem ldaxB : Statement .ldaxB := ⟨_, _, rfl, fun _ => rfl⟩
theorem dcxB : Statement .dcxB := ⟨_, _, rfl, fun _ => rfl⟩
theorem inrC : Statement .inrC := ⟨_, _, rfl, fun _ => rfl⟩
theorem dcrC : Statement .dcrC := ⟨_, _, rfl, fun _ => rfl⟩
theorem mviC (v : Byte) : Statement (.mviC v) := ⟨_, _, rfl, fun _ => rfl⟩
theorem rrc : Statement .rrc := ⟨_, _, rfl, fun _ => rfl⟩
theorem lxiD (v : Word) : Statement (.lxiD v) := ⟨_, _, rfl, fun _ => rfl⟩
theorem staxD : Statement .staxD := ⟨_, _, rfl, fun _ => rfl⟩
theorem inxD : Statement .inxD := ⟨_, _, rfl, fun _ => rfl⟩
theorem inrD : Statement .inrD := ⟨_, _, rfl, fun _ => rfl⟩
theorem dcrD : Statement .dcrD := ⟨_, _, rfl, fun _ => rfl⟩
theorem mviD (v : Byte) : Statement (.mviD v) := ⟨_, _, rfl, fun _ => rfl⟩
theorem ral : Statement .ral := ⟨_, _, rfl, fun _ => rfl⟩
theorem dadD : Statement .dadD := ⟨_, _, rfl, fun _ => rfl⟩
theorem ldaxD : Statement .ldaxD := ⟨_, _, rfl, fun _ => rfl⟩
theorem dcxD : Statement .dcxD := ⟨_, _, rfl, fun _ => rfl⟩
theorem inrE : Statement .inrE := ⟨_, _, rfl, fun _ => rfl⟩
theorem dcrE : Statement .dcrE := ⟨_, _, rfl, fun _ => rfl⟩
theorem mviE (v : Byte) : Statement (.mviE v) := ⟨_, _, rfl, fun _ => rfl⟩
theorem rar : Statement .rar := ⟨_, _, rfl, fun _ => rfl⟩
theorem lxiH (v : Word) : Statement (.lxiH v) := ⟨_, _, rfl, fun _ => rfl⟩
theorem shld (v : Word) : Statement (.shld v) := ⟨_, _, rfl, fun _ => rfl⟩
theorem inxH : Statement .inxH := ⟨_, _, rfl, fun _ => rfl⟩
theorem inrH : Statement .inrH := ⟨_, _, rfl, fun _ => rfl⟩
theorem dcrH : Statement .dcrH := ⟨_, _, rfl, fun _ => rfl⟩
theorem mviH (v : Byte) : Statement (.mviH v) := ⟨_, _, rfl, fun _ => rfl⟩
theorem daa : Statement .daa := ⟨_, _, rfl, fun _ => rfl⟩
theorem dadH : Statement .dadH := ⟨_, _, rfl, fun _ => rfl⟩
theorem lhld (v : Word) : Statement (.lhld v) := ⟨_, _, rfl, fun _ => rfl⟩
theorem dcxH : Statement .dcxH := ⟨_, _, rfl, fun _ => rfl⟩
theorem inrL : Statement .inrL := ⟨_, _, rfl, fun _ => rfl⟩
theorem dcrL : Statement .dcrL := ⟨_, _, rfl, fun _ => rfl⟩
theorem mviL (v : Byte) : Statement (.mviL v) := ⟨_, _, rfl, fun _ => rfl⟩
theorem cma : Statement .cma := ⟨_, _, rfl, fun _ => rfl⟩
theorem lxiSP (v : Word) : Statement (.lxiSP v) := ⟨_, _, rfl, fun _ => rfl⟩
theorem sta (v : Word) : Statement (.sta v) := ⟨_, _, rfl, fun _ => rfl⟩
theorem inxSP : Statement .inxSP := ⟨_, _, rfl, fun _ => rfl⟩
theorem inrM : Statement .inrM := ⟨_, _, rfl, fun _ => rfl⟩
theorem dcrM : Statement .dcrM := ⟨_, _, rfl, fun _ => rfl⟩
theorem mviM (v : Byte) : Statement (.mviM v) := ⟨_, _, rfl, fun _ => rfl⟩
theorem stc : Statement .stc := ⟨_, _, rfl, fun _ => rfl⟩
theorem dadSP : Statement .dadSP := ⟨_, _, rfl, fun _ => rfl⟩
theorem lda (v : Word) : Statement (.lda v) := ⟨_, _, rfl, fun _ => rfl⟩
theorem dcxSP : Statement .dcxSP := ⟨_, _, rfl, fun _ => rfl⟩
theorem inrA : Statement .inrA := ⟨_, _, rfl, fun _ => rfl⟩
theorem dcrA : Statement .dcrA := ⟨_, _, rfl, fun _ => rfl⟩
theorem mviA (v : Byte) : Statement (.mviA v) := ⟨_, _, rfl, fun _ => rfl⟩
theorem cmc : Statement .cmc := ⟨_, _, rfl, fun _ => rfl⟩
theorem movBB : Statement .movBB := ⟨_, _, rfl, fun _ => rfl⟩
theorem movBC : Statement .movBC := ⟨_, _, rfl, fun _ => rfl⟩
theorem movBD : Statement .movBD := ⟨_, _, rfl, fun _ => rfl⟩
theorem movBE : Statement .movBE := ⟨_, _, rfl, fun _ => rfl⟩
theorem movBH : Statement .movBH := ⟨_, _, rfl, fun _ => rfl⟩
theorem movBL : Statement .movBL := ⟨_, _, rfl, fun _ => rfl⟩
theorem movBM : Statement .movBM := ⟨_, _, rfl, fun _ => rfl⟩
theorem movBA : Statement .movBA := ⟨_, _, rfl, fun _ => rfl⟩
theorem movCB : Statement .movCB := ⟨_, _, rfl, fun _ => rfl⟩
theorem movCC : Statement .movCC := ⟨_, _, rfl, fun _ => rfl⟩
theorem movCD : Statement .movCD := ⟨_, _, rfl, fun _ => rfl⟩
theorem movCE : Statement .movCE := ⟨_, _, rfl, fun _ => rfl⟩
theorem movCH : Statement .movCH := ⟨_, _, rfl, fun _ => rfl⟩
theorem movCL : Statement .movCL := ⟨_, _, rfl, fun _ => rfl⟩
theorem movCM : Statement .movCM := ⟨_, _, rfl, fun _ => rfl⟩
theorem movCA : Statement .movCA := ⟨_, _, rfl, fun _ => rfl⟩
theorem movDB : Statement .movDB := ⟨_, _, rfl, fun _ => rfl⟩
theorem movDC : Statement .movDC := ⟨_, _, rfl, fun _ => rfl⟩
theorem movDD : Statement .movDD := ⟨_, _, rfl, fun _ => rfl⟩
theorem movDE : Statement .movDE := ⟨_, _, rfl, fun _ => rfl⟩
theorem movDH : Statement .movDH := ⟨_, _, rfl, fun _ => rfl⟩
theorem movDL : Statement .movDL := ⟨_, _, rfl, fun _ => rfl⟩
theorem movDM : Statement .movDM := ⟨_, _, rfl, fun _ => rfl⟩
theorem movDA : Statement .movDA := ⟨_, _, rfl, fun _ => rfl⟩
theorem movEB : Statement .movEB := ⟨_, _, rfl, fun _ => rfl⟩
theorem movEC : Statement .movEC := ⟨_, _, rfl, fun _ => rfl⟩
theorem movED : Statement .movED := ⟨_, _, rfl, fun _ => rfl⟩
theorem movEE : Statement .movEE := ⟨_, _, rfl, fun _ => rfl⟩
theorem movEH : Statement .movEH := ⟨_, _, rfl, fun _ => rfl⟩
theorem movEL : Statement .movEL := ⟨_, _, rfl, fun _ => rfl⟩
theorem movEM : Statement .movEM := ⟨_, _, rfl, fun _ => rfl⟩
theorem movEA : Statement .movEA := ⟨_, _, rfl, fun _ => rfl⟩
theorem movHB : Statement .movHB := ⟨_, _, rfl, fun _ => rfl⟩
theorem movHC : Statement .movHC := ⟨_, _, rfl, fun _ => rfl⟩
theorem movHD : Statement .movHD := ⟨_, _, rfl, fun _ => rfl⟩
theorem movHE : Statement .movHE := ⟨_, _, rfl, fun _ => rfl⟩
theorem movHH : Statement .movHH := ⟨_, _, rfl, fun _ => rfl⟩
theorem movHL : Statement .movHL := ⟨_, _, rfl, fun _ => rfl⟩
theorem movHM : Statement .movHM := ⟨_, _, rfl, fun _ => rfl⟩
theorem movHA : Statement .movHA := ⟨_, _, rfl, fun _ => rfl⟩
theorem movLB : Statement .movLB := ⟨_, _, rfl, fun _ => rfl⟩
theorem movLC : Statement .movLC := ⟨_, _, rfl, fun _ => rfl⟩
theorem movLD : Statement .movLD := ⟨_, _, rfl, fun _ => rfl⟩
theorem movLE : Statement .movLE := ⟨_, _, rfl, fun _ => rfl⟩
theorem movLH : Statement .movLH := ⟨_, _, rfl, fun _ => rfl⟩
theorem movLL : Statement .movLL := ⟨_, _, rfl, fun _ => rfl⟩
theorem movLM : Statement .movLM := ⟨_, _, rfl, fun _ => rfl⟩
theorem movLA : Statement .movLA := ⟨_, _, rfl, fun _ => rfl⟩
theorem movMB : Statement .movMB := ⟨_, _, rfl, fun _ => rfl⟩
theorem movMC : Statement .movMC := ⟨_, _, rfl, fun _ => rfl⟩
theorem movMD : Statement .movMD := ⟨_, _, rfl, fun _ => rfl⟩
theorem movME : Statement .movME := ⟨_, _, rfl, fun _ => rfl⟩
theorem movMH : Statement .movMH := ⟨_, _, rfl, fun _ => rfl⟩
theorem movML : Statement .movML := ⟨_, _, rfl, fun _ => rfl⟩
theorem hlt : Statement .hlt := ⟨_, _, rfl, fun _ => rfl⟩
theorem movMA : Statement .movMA := ⟨_, _, rfl, fun _ => rfl⟩
theorem movAB : Statement .movAB := ⟨_, _, rfl, fun _ => rfl⟩
theorem movAC : Statement .movAC := ⟨_, _, rfl, fun _ => rfl⟩
theorem movAD : Statement .movAD := ⟨_, _, rfl, fun _ => rfl⟩
theorem movAE : Statement .movAE := ⟨_, _, rfl, fun _ => rfl⟩
theorem movAH : Statement .movAH := ⟨_, _, rfl, fun _ => rfl⟩
theorem movAL : Statement .movAL := ⟨_, _, rfl, fun _ => rfl⟩
theorem movAM : Statement .movAM := ⟨_, _, rfl, fun _ => rfl⟩
theorem movAA : Statement .movAA := ⟨_, _, rfl, fun _ => rfl⟩
theorem addB : Statement .addB := ⟨_, _, rfl, fun _ => rfl⟩
theorem addC : Statement .addC := ⟨_, _, rfl, fun _ => rfl⟩
theorem addD : Statement .addD := ⟨_, _, rfl, fun _ => rfl⟩
theorem addE : Statement .addE := ⟨_, _, rfl, fun _ => rfl⟩
theorem addH : Statement .addH := ⟨_, _, rfl, fun _ => rfl⟩
theorem addL : Statement .addL := ⟨_, _, rfl, fun _ => rfl⟩
theorem addM : Statement .addM := ⟨_, _, rfl, fun _ => rfl⟩
theorem addA : Statement .addA := ⟨_, _, rfl, fun _ => rfl⟩
theorem adcB : Statement .adcB := ⟨_, _, rfl, fun _ => rfl⟩
theorem adcC : Statement .adcC := ⟨_, _, rfl, fun _ => rfl⟩
theorem adcD : Statement .adcD := ⟨_, _, rfl, fun _ => rfl⟩
theorem adcE : Statement .adcE := ⟨_, _, rfl, fun _ => rfl⟩
theorem adcH : Statement .adcH := ⟨_, _, rfl, fun _ => rfl⟩
theorem adcL : Statement .adcL := ⟨_, _, rfl, fun _ => rfl⟩
theorem adcM : Statement .adcM := ⟨_, _, rfl, fun _ => rfl⟩
theorem adcA : Statement .adcA := ⟨_, _, rfl, fun _ => rfl⟩
theorem subB : Statement .subB := ⟨_, _, rfl, fun _ => rfl⟩
theorem subC : Statement .subC := ⟨_, _, rfl, fun _ => rfl⟩
theorem subD : Statement .subD := ⟨_, _, rfl, fun _ => rfl⟩
theorem subE : Statement .subE := ⟨_, _, rfl, fun _ => rfl⟩
theorem subH : Statement .subH := ⟨_, _, rfl, fun _ => rfl⟩
theorem subL : Statement .subL := ⟨_, _, rfl, fun _ => rfl⟩
theorem subM : Statement .subM := ⟨_, _, rfl, fun _ => rfl⟩
theorem subA : Statement .subA := ⟨_, _, rfl, fun _ => rfl⟩
theorem sbbB : Statement .sbbB := ⟨_, _, rfl, fun _ => rfl⟩
theorem sbbC : Statement .sbbC := ⟨_, _, rfl, fun _ => rfl⟩
theorem sbbD : Statement .sbbD := ⟨_, _, rfl, fun _ => rfl⟩
theorem sbbE : Statement .sbbE := ⟨_, _, rfl, fun _ => rfl⟩
theorem sbbH : Statement .sbbH := ⟨_, _, rfl, fun _ => rfl⟩
theorem sbbL : Statement .sbbL := ⟨_, _, rfl, fun _ => rfl⟩
theorem sbbM : Statement .sbbM := ⟨_, _, rfl, fun _ => rfl⟩
theorem sbbA : Statement .sbbA := ⟨_, _, rfl, fun _ => rfl⟩
theorem anaB : Statement .anaB := ⟨_, _, rfl, fun _ => rfl⟩
theorem anaC : Statement .anaC := ⟨_, _, rfl, fun _ => rfl⟩
theorem anaD : Statement .anaD := ⟨_, _, rfl, fun _ => rfl⟩
theorem anaE : Statement .anaE := ⟨_, _, rfl, fun _ => rfl⟩
theorem anaH : Statement .anaH := ⟨_, _, rfl, fun _ => rfl⟩
theorem anaL : Statement .anaL := ⟨_, _, rfl, fun _ => rfl⟩
theorem anaM : Statement .anaM := ⟨_, _, rfl, fun _ => rfl⟩
theorem anaA : Statement .anaA := ⟨_, _, rfl, fun _ => rfl⟩
theorem xraB : Statement .xraB := ⟨_, _, rfl, fun _ => rfl⟩
theorem xraC : Statement .xraC := ⟨_, _, rfl, fun _ => rfl⟩
theorem xraD : Statement .xraD := ⟨_, _, rfl, fun _ => rfl⟩
theorem xraE : Statement .xraE := ⟨_, _, rfl, fun _ => rfl⟩
theorem xraH : Statement .xraH := ⟨_, _, rfl, fun _ => rfl⟩
theorem xraL : Statement .xraL := ⟨_, _, rfl, fun _ => rfl⟩
theorem xraM : Statement .xraM := ⟨_, _, rfl, fun _ => rfl⟩
theorem xraA : Statement .xraA := ⟨_, _, rfl, fun _ => rfl⟩
theorem oraB : Statement .oraB := ⟨_, _, rfl, fun _ => rfl⟩
theorem oraC : Statement .oraC := ⟨_, _, rfl, fun _ => rfl⟩
theorem oraD : Statement .oraD := ⟨_, _, rfl, fun _ => rfl⟩
theorem oraE : Statement .oraE := ⟨_, _, rfl, fun _ => rfl⟩
theorem oraH : Statement .oraH := ⟨_, _, rfl, fun _ => rfl⟩
theorem oraL : Statement .oraL := ⟨_, _, rfl, fun _ => rfl⟩
theorem oraM : Statement .oraM := ⟨_, _, rfl, fun _ => rfl⟩
theorem oraA : Statement .oraA := ⟨_, _, rfl, fun _ => rfl⟩
theorem cmpB : Statement .cmpB := ⟨_, _, rfl, fun _ => rfl⟩
theorem cmpC : Statement .cmpC := ⟨_, _, rfl, fun _ => rfl⟩
theorem cmpD : Statement .cmpD := ⟨_, _, rfl, fun _ => rfl⟩
theorem cmpE : Statement .cmpE := ⟨_, _, rfl, fun _ => rfl⟩
theorem cmpH : Statement .cmpH := ⟨_, _, rfl, fun _ => rfl⟩
theorem cmpL : Statement .cmpL := ⟨_, _, rfl, fun _ => rfl⟩
theorem cmpM : Statement .cmpM := ⟨_, _, rfl, fun _ => rfl⟩
theorem cmpA : Statement .cmpA := ⟨_, _, rfl, fun _ => rfl⟩
theorem rnz : Statement .rnz := ⟨_, _, rfl, fun _ => rfl⟩
theorem popB : Statement .popB := ⟨_, _, rfl, fun _ => rfl⟩
theorem jnz (v : Word) : Statement (.jnz v) := ⟨_, _, rfl, fun _ => rfl⟩
theorem jmp (v : Word) : Statement (.jmp v) := ⟨_, _, rfl, fun _ => rfl⟩
theorem cnz (v : Word) : Statement (.cnz v) := ⟨_, _, rfl, fun _ => rfl⟩
theorem pushB : Statement .pushB := ⟨_, _, rfl, fun _ => rfl⟩
theorem adi (v : Byte) : Statement (.adi v) := ⟨_, _, rfl, fun _ => rfl⟩
theorem rst0 : Statement .rst0 := ⟨_, _, rfl, fun _ => rfl⟩
theorem rz : Statement .rz := ⟨_, _, rfl, fun _ => rfl⟩
theorem ret : Statement .ret := ⟨_, _, rfl, fun _ => rfl⟩
theorem jz (v : Word) : Statement (.jz v) := ⟨_, _, rfl, fun _ => rfl⟩
theorem cz (v : Word) : Statement (.cz v) := ⟨_, _, rfl, fun _ => rfl⟩
theorem call (v : Word) : Statement (.call v) := ⟨_, _, rfl, fun _ => rfl⟩
theorem aci (v : Byte) : Statement (.aci v) := ⟨_, _, rfl, fun _ => rfl⟩
theorem rst1 : Statement .rst1 := ⟨_, _, rfl, fun _ => rfl⟩
theorem rnc : Statement .rnc := ⟨_, _, rfl, fun _ => rfl⟩
theorem popD : Statement .popD := ⟨_, _, rfl, fun _ => rfl⟩
theorem jnc (v : Word) : Statement (.jnc v) := ⟨_, _, rfl, fun _ => rfl⟩
theorem outPort (v : Byte) : Statement (.outPort v) := ⟨_, _, rfl, fun _ => rfl⟩
theorem cnc (v : Word) : Statement (.cnc v) := ⟨_, _, rfl, fun _ => rfl⟩
theorem pushD : Statement .pushD := ⟨_, _, rfl, fun _ => rfl⟩
theorem sui (v : Byte) : Statement (.sui v) := ⟨_, _, rfl, fun _ => rfl⟩
theorem rst2 : Statement .rst2 := ⟨_, _, rfl, fun _ => rfl⟩
theorem rc : Statement .rc := ⟨_, _, rfl, fun _ => rfl⟩
theorem jc (v : Word) : Statement (.jc v) := ⟨_, _, rfl, fun _ => rfl⟩
theorem inPort (v : Byte) : Statement (.inPort v) := ⟨_, _, rfl, fun _ => rfl⟩
theorem cc (v : Word) : Statement (.cc v) := ⟨_, _, rfl, fun _ => rfl⟩
theorem sbi (v : Byte) : Statement (.sbi v) := ⟨_, _, rfl, fun _ => rfl⟩
theorem rst3 : Statement .rst3 := ⟨_, _, rfl, fun _ => rfl⟩
theorem rpo : Statement .rpo := ⟨_, _, rfl, fun _ => rfl⟩
theorem popH : Statement .popH := ⟨_, _, rfl, fun _ => rfl⟩
theorem jpo (v : Word) : Statement (.jpo v) := ⟨_, _, rfl, fun _ => rfl⟩
theorem xthl : Statement .xthl := ⟨_, _, rfl, fun _ => rfl⟩
theorem cpo (v : Word) : Statement (.cpo v) := ⟨_, _, rfl, fun _ => rfl⟩
theorem pushH : Statement .pushH := ⟨_, _, rfl, fun _ => rfl⟩
theorem ani (v : Byte) : Statement (.ani v) := ⟨_, _, rfl, fun _ => rfl⟩
theorem rst4 : Statement .rst4 := ⟨_, _, rfl, fun _ => rfl⟩
theorem rpe : Statement .rpe := ⟨_, _, rfl, fun _ => rfl⟩
theorem pchl : Statement .pchl := ⟨_, _, rfl, fun _ => rfl⟩
theorem jpe (v : Word) : Statement (.jpe v) := ⟨_, _, rfl, fun _ => rfl⟩
theorem xchg : Statement .xchg := ⟨_, _, rfl, fun _ => rfl⟩
theorem cpe (v : Word) : Statement (.cpe v) := ⟨_, _, rfl, fun _ => rfl⟩
theorem xri (v : Byte) : Statement (.xri v) := ⟨_, _, rfl, fun _ => rfl⟩
theorem rst5 : Statement .rst5 := ⟨_, _, rfl, fun _ => rfl⟩
theorem rp : Statement .rp := ⟨_, _, rfl, fun _ => rfl⟩
theorem popPSW : Statement .popPSW := ⟨_, _, rfl, fun _ => rfl⟩
theorem jp (v : Word) : Statement (.jp v) := ⟨_, _, rfl, fun _ => rfl⟩
theorem di : Statement .di := ⟨_, _, rfl, fun _ => rfl⟩
theorem cp (v : Word) : Statement (.cp v) := ⟨_, _, rfl, fun _ => rfl⟩
theorem pushPSW : Statement .pushPSW := ⟨_, _, rfl, fun _ => rfl⟩
theorem ori (v : Byte) : Statement (.ori v) := ⟨_, _, rfl, fun _ => rfl⟩
theorem rst6 : Statement .rst6 := ⟨_, _, rfl, fun _ => rfl⟩
theorem rm : Statement .rm := ⟨_, _, rfl, fun _ => rfl⟩
theorem sphl : Statement .sphl := ⟨_, _, rfl, fun _ => rfl⟩
theorem jm (v : Word) : Statement (.jm v) := ⟨_, _, rfl, fun _ => rfl⟩
theorem ei : Statement .ei := ⟨_, _, rfl, fun _ => rfl⟩
theorem cm (v : Word) : Statement (.cm v) := ⟨_, _, rfl, fun _ => rfl⟩
theorem cpi (v : Byte) : Statement (.cpi v) := ⟨_, _, rfl, fun _ => rfl⟩
theorem rst7 : Statement .rst7 := ⟨_, _, rfl, fun _ => rfl⟩
theorem undefined (op : Byte) : Statement (.undefined op) :=
  ⟨op, [], rfl, fun h => by
    have h' : op ∈ undefinedOpcodes := by simpa [Instr.wellFormed] using h
    have all : ∀ x ∈ undefinedOpcodes, opLength x = 1 := by decide
    simp [encode, all op h']⟩

end Sys2Proof.Laws.LengthRule
end

