-- ==== Sys2Proof/Laws/Step.lean ====
section
/-! SUPPORT. Laws/Step.lean: the step, the bytes an image load or a placed instruction leaves, and that a placed
instruction is the one the next step runs. -/

namespace Sys2Proof.Machine

theorem step_running (s : State) (h : s.halt = false) : step s = exec s.fetch s := by
  rw [step, issue, h]
  rfl

theorem step_halted (s : State) (h : s.halt = true) : step s = .next s := by
  rw [step, issue, if_pos h]

/-! ### Bytes written in a row -/

theorem State.writeBytes_wf (bytes : List Byte) (s : State) (x : Word) (h : s.mem.wf = true) :
    (s.writeBytes x bytes).mem.wf = true := by
  induction bytes generalizing s x with
  | nil => exact h
  | cons v vs ih => exact ih _ _ (State.writeByte_wf _ _ _ h)

/-- Only memory is written. -/
theorem State.writeBytes_mem_only (bytes : List Byte) (s : State) (x : Word) :
    ∃ m, s.writeBytes x bytes = { s with mem := m } := by
  induction bytes generalizing s x with
  | nil => exact ⟨s.mem, rfl⟩
  | cons v vs ih =>
    obtain ⟨m, hm⟩ := ih (s.writeByte x v) (x + 1)
    exact ⟨m, by rw [State.writeBytes, hm]; rfl⟩

theorem add_ofNat_succ (x : Word) (k : Nat) : x + BitVec.ofNat 16 (k + 1) = x + 1 + BitVec.ofNat 16 k := by
  rw [BitVec.add_assoc, Nat.add_comm, BitVec.ofNat_add]
  rfl

/-- An address that no written byte has reads as before. -/
theorem State.writeBytes_outside (bytes : List Byte) (s : State) (x y : Word)
    (h : ∀ k < bytes.length, y ≠ x + BitVec.ofNat 16 k) : (s.writeBytes x bytes).readByte y = s.readByte y := by
  induction bytes generalizing s x with
  | nil => rfl
  | cons v vs ih =>
    rw [State.writeBytes, ih]
    · have h0 : y ≠ x := by simpa using h 0 (by simp)
      rw [State.writeByte_readByte, if_neg h0]
    · intro k hk
      rw [← add_ofNat_succ]
      exact h (k + 1) (by simpa using hk)

/-- The `k`-th byte written reads back, where the bytes do not overlap themselves. -/
theorem State.writeBytes_inside (bytes : List Byte) (s : State) (x : Word) (k : Nat) (hk : k < bytes.length)
    (hl : bytes.length ≤ 65536) : (s.writeBytes x bytes).readByte (x + BitVec.ofNat 16 k) = bytes[k] := by
  induction bytes generalizing s x k with
  | nil => exact absurd hk (by simp)
  | cons v vs ih =>
    simp only [List.length_cons] at hk hl
    cases k with
    | zero =>
      rw [State.writeBytes, State.writeBytes_outside]
      · simp
      · intro j hj he
        have := congrArg BitVec.toNat he
        simp only [BitVec.toNat_add, BitVec.toNat_ofNat, show (1 : Word).toNat = 1 from rfl] at this
        have := x.isLt
        omega
    | succ k =>
      rw [State.writeBytes, add_ofNat_succ, ih _ _ k (by omega) (by omega)]
      simp

/-! ### A placed instruction -/

/-- The operand bytes beyond an opcode's length do not matter to the map (30_encoding.md R92). -/
theorem decodeOp_congr (op b1 b2 c1 c2 : Byte)
    (h : [b1, b2].take (opLength op - 1) = [c1, c2].take (opLength op - 1)) :
    decodeOp op b1 b2 = decodeOp op c1 c2 := by
  have key : ∀ n < 256,
      [b1, b2].take (opLength (BitVec.ofNat 8 n) - 1) = [c1, c2].take (opLength (BitVec.ofNat 8 n) - 1) →
      decodeOp (BitVec.ofNat 8 n) b1 b2 = decodeOp (BitVec.ofNat 8 n) c1 c2 := by
    intro n hn
    interval_cases n <;> intro h <;> first
      | rfl
      | (injection (show [b1] = [c1] from h) with h; subst h; rfl)
      | (have h : [b1, b2] = [c1, c2] := h
         simp only [List.cons.injEq, and_true] at h
         obtain ⟨rfl, rfl⟩ := h
         rfl)
  have := key op.toNat op.isLt
  rw [BitVec.ofNat_toNat, BitVec.setWidth_eq] at this
  exact this h

/-- What the next fetch finds after `withFetchWord`. -/
theorem State.withFetchWord_fetch (s : State) (nbits w : Nat) (op b1 b2 : Byte)
    (h : tableBytes nbits w = [op, b1, b2]) : (s.withFetchWord nbits w).fetch = decodeOp op b1 b2 := by
  have hb : ∀ k (hk : k < 3),
      (s.writeBytes s.pc [op, b1, b2]).readByte (s.pc + BitVec.ofNat 16 k) = [op, b1, b2][k]'hk :=
    fun k hk => State.writeBytes_inside _ _ _ _ hk (Nat.le_of_ble_eq_true rfl)
  have hpc : (s.writeBytes s.pc [op, b1, b2]).pc = s.pc := by
    obtain ⟨m, hm⟩ := State.writeBytes_mem_only [op, b1, b2] s s.pc
    rw [hm]
  have h0 := hb 0 (by decide)
  rw [show BitVec.ofNat 16 0 = 0#16 from rfl, BitVec.add_zero] at h0
  rw [State.withFetchWord, State.placeWord, h, State.fetch, State.setHalt_pc, hpc]
  simp only [State.setHalt_readByte]
  exact congr (congrArg₂ decodeOp h0 (hb 1 (by decide))) (hb 2 (by decide))

/-- The step after `withFetchWord` runs the instruction the decoder reads from the word (log 11). -/
theorem step_withFetchWord (s : State) (nbits w : Nat) (i : Instr) (h : decodeTableWord nbits w = some i) :
    step (s.withFetchWord nbits w) = exec i (s.withFetchWord nbits w) := by
  have hf : (s.withFetchWord nbits w).fetch = i := by
    obtain ⟨op, b1, b2, hw⟩ : ∃ op b1 b2, tableBytes nbits w = [op, b1, b2] := ⟨_, _, _, rfl⟩
    rw [State.withFetchWord_fetch s nbits w op b1 b2 hw]
    unfold decodeTableWord at h
    split at h
    · next j rest hd =>
      injection h with h
      subst h
      rw [hw] at hd
      obtain ⟨op', c1, c2, rfl, hc⟩ := decode_cases _ _ _ hd
      rcases hc with ⟨hl, rfl, rfl, hc⟩ | ⟨hl, rfl, hc⟩ | ⟨hl, hc⟩ <;>
        simp only [List.cons.injEq] at hc <;> obtain ⟨rfl, hc⟩ := hc
      · exact decodeOp_congr _ _ _ _ _ (by rw [hl]; rfl)
      · obtain ⟨rfl, -⟩ := hc
        exact decodeOp_congr _ _ _ _ _ (by rw [hl]; rfl)
      · obtain ⟨rfl, rfl, -⟩ := hc
        rfl
    · cases h
  rw [step_running _ (by rw [State.withFetchWord, State.placeWord, State.setHalt_halt]), hf]

end Sys2Proof.Machine
end

