-- ==== Sys2Proof/Laws/Run.lean ====
section
/-! SUPPORT. Laws/Run.lean: a run (60_exceptions.md R425): where it starts, that it ends in one way, and the induction
over it. -/

namespace Sys2Proof.Machine

theorem continueRun_final (acts : List HostAction) (s : State) (h : s.halt = true) :
    continueRun acts s = .halted s := by
  cases acts <;> rw [continueRun, State.isFinal, if_pos h]

theorem continueRun_nil (s : State) (h : s.halt = false) : continueRun [] s = .running s := by
  simp [continueRun, State.isFinal, h]

theorem continueRun_next (act : HostAction) (acts : List HostAction) (s t : State) (h : s.halt = false)
    (ha : hostAct act s = .next t) : continueRun (act :: acts) s = continueRun acts t := by
  simp [continueRun, State.isFinal, h, ha]

theorem continueRun_fault (act : HostAction) (acts : List HostAction) (s : State) (f : Fault) (h : s.halt = false)
    (ha : hostAct act s = .fault f) : continueRun (act :: acts) s = .faulted s f := by
  simp [continueRun, State.isFinal, h, ha]

/-- A run that has not ended goes on from where it stands; one that has ended stays as it is. -/
theorem continueRun_append (acts more : List HostAction) (s : State) :
    continueRun (acts ++ more) s =
      match continueRun acts s with
      | .running t => continueRun more t
      | r => r := by
  induction acts generalizing s with
  | nil =>
    cases h : s.halt
    · rw [continueRun_nil s h]
      rfl
    · rw [continueRun_final [] s h, List.nil_append, continueRun_final more s h]
  | cons act acts ih =>
    cases h : s.halt
    · simp only [List.cons_append, continueRun, State.isFinal, h, Bool.false_eq_true, if_false]
      cases hostAct act s with
      | next t => exact ih t
      | _ => rfl
    · rw [continueRun_final _ s h, continueRun_final _ s h]

/-- What holds at a state, and of what each action of the host makes of a state that is not final, holds of every state a
run comes to from there. -/
theorem continueRun_induction (P : State → Prop)
    (keep : ∀ act s t, s.halt = false → P s → hostAct act s = .next t → P t)
    (acts : List HostAction) (s t : State) (hs : P s)
    (h : continueRun acts s = .running t ∨ continueRun acts s = .halted t ∨ ∃ f, continueRun acts s = .faulted t f) :
    P t := by
  induction acts generalizing s with
  | nil =>
    cases hh : s.halt
    · rw [continueRun_nil s hh] at h
      rcases h with h | h | ⟨_, h⟩ <;> cases h
      exact hs
    · rw [continueRun_final [] s hh] at h
      rcases h with h | h | ⟨_, h⟩ <;> cases h
      exact hs
  | cons act acts ih =>
    cases hh : s.halt
    · cases ha : hostAct act s with
      | next u => exact ih u (keep act s u hh hs ha) (continueRun_next act acts s u hh ha ▸ h)
      | fault f =>
        rw [continueRun_fault act acts s f hh ha] at h
        rcases h with h | h | ⟨_, h⟩ <;> cases h
        exact hs
      | refused r =>
        simp only [continueRun, State.isFinal, hh, Bool.false_eq_true, if_false, ha] at h
        rcases h with h | h | ⟨_, h⟩ <;> cases h
    · rw [continueRun_final _ s hh] at h
      rcases h with h | h | ⟨_, h⟩ <;> cases h
      exact hs

/-- A run that is going on stands at a state that is not final. -/
theorem continueRun_running_halt (acts : List HostAction) (s t : State) (h : continueRun acts s = .running t) :
    t.halt = false := by
  have : RunStatus.running t = continueRun [] t := by
    simpa only [List.append_nil, h] using continueRun_append acts [] s
  cases ht : t.halt
  · rfl
  · rw [continueRun_final [] t ht] at this
    cases this

/-- The run's start state: reset, with the image in memory, and nothing else changed. -/
theorem loadImage_cases (base : Nat) (image : List Byte) (s : State) :
    (base + image.length ≤ 65536 ∧
      ∃ m, loadImage base image s = .loaded { s with mem := m } ∧
        { s with mem := m } = s.writeBytes (BitVec.ofNat 16 base) image) ∨
    (¬ base + image.length ≤ 65536 ∧ loadImage base image s = .failed) := by
  by_cases h : base + image.length ≤ 65536
  · obtain ⟨m, hm⟩ := State.writeBytes_mem_only image s (BitVec.ofNat 16 base)
    exact .inl ⟨h, m, by rw [loadImage, if_pos h, hm], hm.symm⟩
  · exact .inr ⟨h, by rw [loadImage, if_neg h]⟩

theorem runAfter_notStarted (base : Nat) (image : List Byte) (acts : List HostAction) :
    runAfter base image acts = .notStarted ↔ ¬ base + image.length ≤ 65536 := by
  have started : ∀ (acts : List HostAction) (s : State), continueRun acts s ≠ .notStarted := by
    intro acts
    induction acts with
    | nil => intro s; rw [continueRun]; split <;> simp
    | cons act acts ih =>
      intro s
      rw [continueRun]
      split
      · simp
      · split
        · exact ih _
        · simp
        · simp
  rcases loadImage_cases base image State.reset with ⟨hl, m, he, -⟩ | ⟨hl, he⟩
  · simp [runAfter, he, hl, started]
  · simp [runAfter, he, hl]

theorem runAfter_append (base : Nat) (image : List Byte) (acts more : List HostAction) :
    runAfter base image (acts ++ more) =
      match runAfter base image acts with
      | .running t => continueRun more t
      | r => r := by
  rcases loadImage_cases base image State.reset with ⟨-, m, he, -⟩ | ⟨-, he⟩
  · simp only [runAfter, he]
    exact continueRun_append acts more _
  · simp only [runAfter, he]

/-- Once a run has ended, what the host goes on to do does not change its end. -/
theorem runAfter_ended (base : Nat) (image : List Byte) (host : Nat → HostAction) (m n : Nat) (h : m ≤ n)
    (he : (runAfter base image (firstActions host m)).ended = true) :
    runAfter base image (firstActions host n) = runAfter base image (firstActions host m) := by
  obtain ⟨k, rfl⟩ := Nat.exists_eq_add_of_le h
  rw [firstActions, List.range_add, List.map_append, runAfter_append]
  rw [firstActions] at he
  cases hr : runAfter base image (List.map host (List.range m)) with
  | running t => rw [hr] at he; cases he
  | _ => simp only [firstActions, hr]

/-- Two ends of one run are the same end. -/
theorem run_ends_once (base : Nat) (image : List Byte) (host : Nat → HostAction) (m n : Nat)
    (hm : (runAfter base image (firstActions host m)).ended = true)
    (hn : (runAfter base image (firstActions host n)).ended = true) :
    runAfter base image (firstActions host m) = runAfter base image (firstActions host n) := by
  rcases Nat.le_total m n with h | h
  · exact (runAfter_ended base image host m n h hm).symm
  · exact runAfter_ended base image host n m h hn

/-- A run halts in one state and then never faults and does not go on (R425: exactly one of the two ends). -/
theorem RunHalts.only {base : Nat} {image : List Byte} {host : Nat → HostAction} {t : State}
    (h : RunHalts base image host t) :
    (∀ t', RunHalts base image host t' → t' = t) ∧ (∀ s f, ¬ RunFaults base image host s f) ∧
      ¬ RunGoesOn base image host := by
  obtain ⟨n, hn⟩ := h
  refine ⟨fun t' ⟨m, hm⟩ => ?_, fun s f ⟨m, hm⟩ => ?_, fun hg => ?_⟩
  · have := run_ends_once base image host m n (by rw [hm]; rfl) (by rw [hn]; rfl)
    rw [hm, hn] at this
    injection this
  · have := run_ends_once base image host m n (by rw [hm]; rfl) (by rw [hn]; rfl)
    rw [hm, hn] at this
    cases this
  · obtain ⟨s, hs⟩ := hg n
    rw [hs] at hn
    cases hn

end Sys2Proof.Machine
end

