-- ==== Sys2Proof/Laws/Scheduler.lean ====
section
/-! SUPPORT. Laws/Scheduler.lean: the loop of `run_for_budget` and the tick, turn by turn, and that what they return does
not depend on how many turns are looked at. -/

namespace Sys2Proof.Machine

/-- What one turn does. -/
theorem budgetTurn_stop (cost : CycleTable) (budget acc : Int) (s : State) (h : ¬(acc < budget ∧ s.halt = false)) :
    budgetTurn cost budget acc s = .done s (acc - budget) := if_neg h

theorem budgetTurn_ok (cost : CycleTable) (budget acc : Int) (s t : State) (n : Nat)
    (h : acc < budget ∧ s.halt = false) (he : execute cost s = .ok t n) :
    budgetTurn cost budget acc s = .running t (acc + n) := by
  rw [budgetTurn, if_pos h, he]

theorem budgetTurn_error (cost : CycleTable) (budget acc : Int) (s : State) (f : Fault)
    (h : acc < budget ∧ s.halt = false) (he : execute cost s = .error f) :
    budgetTurn cost budget acc s = .error s f := by
  rw [budgetTurn, if_pos h, he]

/-- A turn that ends the loop ends it whatever turns are left. -/
theorem budgetLoop_succ_final (cost : CycleTable) (budget acc : Int) (turns : Nat) (s : State)
    (h : (budgetTurn cost budget acc s).final = true) :
    budgetLoop cost budget (turns + 1) acc s = budgetTurn cost budget acc s := by
  rw [budgetLoop]
  cases hr : budgetTurn cost budget acc s with
  | running t acc' => rw [hr] at h; cases h
  | _ => rfl

theorem budgetLoop_succ_running (cost : CycleTable) (budget acc acc' : Int) (turns : Nat) (s t : State)
    (h : budgetTurn cost budget acc s = .running t acc') :
    budgetLoop cost budget (turns + 1) acc s = budgetLoop cost budget turns acc' t := by
  rw [budgetLoop, h]

/-- What the loop returns stays as it is when more turns are looked at. -/
theorem budgetLoop_stable (cost : CycleTable) (budget : Int) (turns more : Nat) (acc : Int) (s : State)
    (h : (budgetLoop cost budget turns acc s).final = true) :
    budgetLoop cost budget (turns + more) acc s = budgetLoop cost budget turns acc s := by
  induction turns generalizing acc s with
  | zero => cases h
  | succ turns ih =>
    rw [Nat.add_right_comm]
    cases hr : budgetTurn cost budget acc s with
    | running t acc' =>
      rw [budgetLoop_succ_running _ _ _ _ _ _ _ hr] at h ⊢
      rw [budgetLoop_succ_running _ _ _ _ _ _ _ hr, ih _ _ h]
    | _ => rw [budgetLoop_succ_final _ _ _ _ _ (by rw [hr]; rfl), budgetLoop_succ_final _ _ _ _ _ (by rw [hr]; rfl)]

/-- A loop returns one result. -/
theorem LoopReturns.unique {cost : CycleTable} {budget acc : Int} {s : State} {r r' : BudgetResult}
    (h : LoopReturns cost budget acc s r) (h' : LoopReturns cost budget acc s r') : r = r' := by
  obtain ⟨hf, m, rfl⟩ := h
  obtain ⟨hf', n, rfl⟩ := h'
  rcases Nat.le_total m n with hl | hl <;> obtain ⟨k, rfl⟩ := Nat.exists_eq_add_of_le hl
  · exact (budgetLoop_stable _ _ _ _ _ _ hf).symm
  · exact budgetLoop_stable _ _ _ _ _ _ hf'

/-- A call returns, or it never does. -/
theorem budget_returns_or_never (cost : CycleTable) (budget : Int) (s : State) :
    (∃ r, BudgetReturns cost budget s r) ∨ BudgetNeverReturns cost budget s := by
  by_cases h : ∃ turns, (runForBudget cost budget turns s).final = true
  · obtain ⟨turns, h⟩ := h
    exact .inl ⟨_, h, turns, rfl⟩
  · exact .inr fun turns => Bool.eq_false_iff.mpr fun ht => h ⟨turns, ht⟩

/-- What a tick returns stays as it is when more turns are looked at. -/
theorem tick_stable (cost : CycleTable) (half1 half2 carried : Int) (turns more : Nat) (s : State)
    (h : (tick cost half1 half2 carried turns s).final = true) :
    tick cost half1 half2 carried (turns + more) s = tick cost half1 half2 carried turns s := by
  have stable : ∀ (budget : Int) (u : State), (runForBudget cost budget turns u).final = true →
      runForBudget cost budget (turns + more) u = runForBudget cost budget turns u :=
    fun budget u hu => budgetLoop_stable _ _ _ _ _ _ hu
  unfold tick at h ⊢
  cases h1 : runForBudget cost (half1 - carried) turns s with
  | running t acc => rw [h1] at h; cases h
  | done s1 left1 =>
    rw [stable _ _ (by rw [h1]; rfl), h1]
    rw [h1] at h
    cases h2 : runForBudget cost (half2 - left1) turns (afterDeliver 1 s1) with
    | running t acc => simp only [h2] at h; cases h
    | _ => simp only [stable _ _ (show BudgetResult.final _ = true by rw [h2]; rfl), h2]
  | _ => rw [stable _ _ (by rw [h1]; rfl), h1]

end Sys2Proof.Machine
end

