-- ==== Sys2Proof/Tests/Slice0.lean ====
section
/-! SUPPORT. Tests/Slice0.lean: tests of the model, each about one word or one step. The words are written out from the
encoding rules (30_encoding.md R93 to R101); the steps are vectors of 95_test_vectors.md, named by their id there; the
witnesses meet the hypotheses of the obligations. -/

namespace Sys2Proof.Tests

open Sys2Proof Sys2Proof.Machine

/-! ### Well-formedness -/

/-- The one check: `undefined` carries one of the twelve bytes. `0x00` is NOP, `0xCD` is CALL. -/
theorem test_wellFormed_refuses_defined_byte :
    (Instr.undefined 0x00).wellFormed = false ∧ (Instr.undefined 0xCD).wellFormed = false := by decide

theorem test_wellFormed_accepts :
    (Instr.undefined 0xFD).wellFormed = true ∧ (Instr.lda 0xFFFF).wellFormed = true ∧
      (Instr.inPort 0xFF).wellFormed = true := by decide

/-! ### The opcode map, one row of sixteen words at a time: an operand byte `0xA6`, an operand word `0xB5C3` -/

theorem test_map_row_0 :
    decodeTableWord 8 0b00000000 = some .nop ∧
    decodeTableWord 24 0b101101011100001100000001 = some (.lxiB 0xB5C3) ∧
    decodeTableWord 8 0b00000010 = some .staxB ∧
    decodeTableWord 8 0b00000011 = some .inxB ∧
    decodeTableWord 8 0b00000100 = some .inrB ∧
    decodeTableWord 8 0b00000101 = some .dcrB ∧
    decodeTableWord 16 0b1010011000000110 = some (.mviB 0xA6) ∧
    decodeTableWord 8 0b00000111 = some .rlc ∧
    decodeTableWord 8 0b00001000 = some (.undefined 0x08) ∧
    decodeTableWord 8 0b00001001 = some .dadB ∧
    decodeTableWord 8 0b00001010 = some .ldaxB ∧
    decodeTableWord 8 0b00001011 = some .dcxB ∧
    decodeTableWord 8 0b00001100 = some .inrC ∧
    decodeTableWord 8 0b00001101 = some .dcrC ∧
    decodeTableWord 16 0b1010011000001110 = some (.mviC 0xA6) ∧
    decodeTableWord 8 0b00001111 = some .rrc := by decide

theorem test_map_row_1 :
    decodeTableWord 8 0b00010000 = some (.undefined 0x10) ∧
    decodeTableWord 24 0b101101011100001100010001 = some (.lxiD 0xB5C3) ∧
    decodeTableWord 8 0b00010010 = some .staxD ∧
    decodeTableWord 8 0b00010011 = some .inxD ∧
    decodeTableWord 8 0b00010100 = some .inrD ∧
    decodeTableWord 8 0b00010101 = some .dcrD ∧
    decodeTableWord 16 0b1010011000010110 = some (.mviD 0xA6) ∧
    decodeTableWord 8 0b00010111 = some .ral ∧
    decodeTableWord 8 0b00011000 = some (.undefined 0x18) ∧
    decodeTableWord 8 0b00011001 = some .dadD ∧
    decodeTableWord 8 0b00011010 = some .ldaxD ∧
    decodeTableWord 8 0b00011011 = some .dcxD ∧
    decodeTableWord 8 0b00011100 = some .inrE ∧
    decodeTableWord 8 0b00011101 = some .dcrE ∧
    decodeTableWord 16 0b1010011000011110 = some (.mviE 0xA6) ∧
    decodeTableWord 8 0b00011111 = some .rar := by decide

theorem test_map_row_2 :
    decodeTableWord 8 0b00100000 = some (.undefined 0x20) ∧
    decodeTableWord 24 0b101101011100001100100001 = some (.lxiH 0xB5C3) ∧
    decodeTableWord 24 0b101101011100001100100010 = some (.shld 0xB5C3) ∧
    decodeTableWord 8 0b00100011 = some .inxH ∧
    decodeTableWord 8 0b00100100 = some .inrH ∧
    decodeTableWord 8 0b00100101 = some .dcrH ∧
    decodeTableWord 16 0b1010011000100110 = some (.mviH 0xA6) ∧
    decodeTableWord 8 0b00100111 = some .daa ∧
    decodeTableWord 8 0b00101000 = some (.undefined 0x28) ∧
    decodeTableWord 8 0b00101001 = some .dadH ∧
    decodeTableWord 24 0b101101011100001100101010 = some (.lhld 0xB5C3) ∧
    decodeTableWord 8 0b00101011 = some .dcxH ∧
    decodeTableWord 8 0b00101100 = some .inrL ∧
    decodeTableWord 8 0b00101101 = some .dcrL ∧
    decodeTableWord 16 0b1010011000101110 = some (.mviL 0xA6) ∧
    decodeTableWord 8 0b00101111 = some .cma := by decide

theorem test_map_row_3 :
    decodeTableWord 8 0b00110000 = some (.undefined 0x30) ∧
    decodeTableWord 24 0b101101011100001100110001 = some (.lxiSP 0xB5C3) ∧
    decodeTableWord 24 0b101101011100001100110010 = some (.sta 0xB5C3) ∧
    decodeTableWord 8 0b00110011 = some .inxSP ∧
    decodeTableWord 8 0b00110100 = some .inrM ∧
    decodeTableWord 8 0b00110101 = some .dcrM ∧
    decodeTableWord 16 0b1010011000110110 = some (.mviM 0xA6) ∧
    decodeTableWord 8 0b00110111 = some .stc ∧
    decodeTableWord 8 0b00111000 = some (.undefined 0x38) ∧
    decodeTableWord 8 0b00111001 = some .dadSP ∧
    decodeTableWord 24 0b101101011100001100111010 = some (.lda 0xB5C3) ∧
    decodeTableWord 8 0b00111011 = some .dcxSP ∧
    decodeTableWord 8 0b00111100 = some .inrA ∧
    decodeTableWord 8 0b00111101 = some .dcrA ∧
    decodeTableWord 16 0b1010011000111110 = some (.mviA 0xA6) ∧
    decodeTableWord 8 0b00111111 = some .cmc := by decide

theorem test_map_row_4 :
    decodeTableWord 8 0b01000000 = some .movBB ∧
    decodeTableWord 8 0b01000001 = some .movBC ∧
    decodeTableWord 8 0b01000010 = some .movBD ∧
    decodeTableWord 8 0b01000011 = some .movBE ∧
    decodeTableWord 8 0b01000100 = some .movBH ∧
    decodeTableWord 8 0b01000101 = some .movBL ∧
    decodeTableWord 8 0b01000110 = some .movBM ∧
    decodeTableWord 8 0b01000111 = some .movBA ∧
    decodeTableWord 8 0b01001000 = some .movCB ∧
    decodeTableWord 8 0b01001001 = some .movCC ∧
    decodeTableWord 8 0b01001010 = some .movCD ∧
    decodeTableWord 8 0b01001011 = some .movCE ∧
    decodeTableWord 8 0b01001100 = some .movCH ∧
    decodeTableWord 8 0b01001101 = some .movCL ∧
    decodeTableWord 8 0b01001110 = some .movCM ∧
    decodeTableWord 8 0b01001111 = some .movCA := by decide

theorem test_map_row_5 :
    decodeTableWord 8 0b01010000 = some .movDB ∧
    decodeTableWord 8 0b01010001 = some .movDC ∧
    decodeTableWord 8 0b01010010 = some .movDD ∧
    decodeTableWord 8 0b01010011 = some .movDE ∧
    decodeTableWord 8 0b01010100 = some .movDH ∧
    decodeTableWord 8 0b01010101 = some .movDL ∧
    decodeTableWord 8 0b01010110 = some .movDM ∧
    decodeTableWord 8 0b01010111 = some .movDA ∧
    decodeTableWord 8 0b01011000 = some .movEB ∧
    decodeTableWord 8 0b01011001 = some .movEC ∧
    decodeTableWord 8 0b01011010 = some .movED ∧
    decodeTableWord 8 0b01011011 = some .movEE ∧
    decodeTableWord 8 0b01011100 = some .movEH ∧
    decodeTableWord 8 0b01011101 = some .movEL ∧
    decodeTableWord 8 0b01011110 = some .movEM ∧
    decodeTableWord 8 0b01011111 = some .movEA := by decide

theorem test_map_row_6 :
    decodeTableWord 8 0b01100000 = some .movHB ∧
    decodeTableWord 8 0b01100001 = some .movHC ∧
    decodeTableWord 8 0b01100010 = some .movHD ∧
    decodeTableWord 8 0b01100011 = some .movHE ∧
    decodeTableWord 8 0b01100100 = some .movHH ∧
    decodeTableWord 8 0b01100101 = some .movHL ∧
    decodeTableWord 8 0b01100110 = some .movHM ∧
    decodeTableWord 8 0b01100111 = some .movHA ∧
    decodeTableWord 8 0b01101000 = some .movLB ∧
    decodeTableWord 8 0b01101001 = some .movLC ∧
    decodeTableWord 8 0b01101010 = some .movLD ∧
    decodeTableWord 8 0b01101011 = some .movLE ∧
    decodeTableWord 8 0b01101100 = some .movLH ∧
    decodeTableWord 8 0b01101101 = some .movLL ∧
    decodeTableWord 8 0b01101110 = some .movLM ∧
    decodeTableWord 8 0b01101111 = some .movLA := by decide

theorem test_map_row_7 :
    decodeTableWord 8 0b01110000 = some .movMB ∧
    decodeTableWord 8 0b01110001 = some .movMC ∧
    decodeTableWord 8 0b01110010 = some .movMD ∧
    decodeTableWord 8 0b01110011 = some .movME ∧
    decodeTableWord 8 0b01110100 = some .movMH ∧
    decodeTableWord 8 0b01110101 = some .movML ∧
    decodeTableWord 8 0b01110110 = some .hlt ∧
    decodeTableWord 8 0b01110111 = some .movMA ∧
    decodeTableWord 8 0b01111000 = some .movAB ∧
    decodeTableWord 8 0b01111001 = some .movAC ∧
    decodeTableWord 8 0b01111010 = some .movAD ∧
    decodeTableWord 8 0b01111011 = some .movAE ∧
    decodeTableWord 8 0b01111100 = some .movAH ∧
    decodeTableWord 8 0b01111101 = some .movAL ∧
    decodeTableWord 8 0b01111110 = some .movAM ∧
    decodeTableWord 8 0b01111111 = some .movAA := by decide

theorem test_map_row_8 :
    decodeTableWord 8 0b10000000 = some .addB ∧
    decodeTableWord 8 0b10000001 = some .addC ∧
    decodeTableWord 8 0b10000010 = some .addD ∧
    decodeTableWord 8 0b10000011 = some .addE ∧
    decodeTableWord 8 0b10000100 = some .addH ∧
    decodeTableWord 8 0b10000101 = some .addL ∧
    decodeTableWord 8 0b10000110 = some .addM ∧
    decodeTableWord 8 0b10000111 = some .addA ∧
    decodeTableWord 8 0b10001000 = some .adcB ∧
    decodeTableWord 8 0b10001001 = some .adcC ∧
    decodeTableWord 8 0b10001010 = some .adcD ∧
    decodeTableWord 8 0b10001011 = some .adcE ∧
    decodeTableWord 8 0b10001100 = some .adcH ∧
    decodeTableWord 8 0b10001101 = some .adcL ∧
    decodeTableWord 8 0b10001110 = some .adcM ∧
    decodeTableWord 8 0b10001111 = some .adcA := by decide

theorem test_map_row_9 :
    decodeTableWord 8 0b10010000 = some .subB ∧
    decodeTableWord 8 0b10010001 = some .subC ∧
    decodeTableWord 8 0b10010010 = some .subD ∧
    decodeTableWord 8 0b10010011 = some .subE ∧
    decodeTableWord 8 0b10010100 = some .subH ∧
    decodeTableWord 8 0b10010101 = some .subL ∧
    decodeTableWord 8 0b10010110 = some .subM ∧
    decodeTableWord 8 0b10010111 = some .subA ∧
    decodeTableWord 8 0b10011000 = some .sbbB ∧
    decodeTableWord 8 0b10011001 = some .sbbC ∧
    decodeTableWord 8 0b10011010 = some .sbbD ∧
    decodeTableWord 8 0b10011011 = some .sbbE ∧
    decodeTableWord 8 0b10011100 = some .sbbH ∧
    decodeTableWord 8 0b10011101 = some .sbbL ∧
    decodeTableWord 8 0b10011110 = some .sbbM ∧
    decodeTableWord 8 0b10011111 = some .sbbA := by decide

theorem test_map_row_A :
    decodeTableWord 8 0b10100000 = some .anaB ∧
    decodeTableWord 8 0b10100001 = some .anaC ∧
    decodeTableWord 8 0b10100010 = some .anaD ∧
    decodeTableWord 8 0b10100011 = some .anaE ∧
    decodeTableWord 8 0b10100100 = some .anaH ∧
    decodeTableWord 8 0b10100101 = some .anaL ∧
    decodeTableWord 8 0b10100110 = some .anaM ∧
    decodeTableWord 8 0b10100111 = some .anaA ∧
    decodeTableWord 8 0b10101000 = some .xraB ∧
    decodeTableWord 8 0b10101001 = some .xraC ∧
    decodeTableWord 8 0b10101010 = some .xraD ∧
    decodeTableWord 8 0b10101011 = some .xraE ∧
    decodeTableWord 8 0b10101100 = some .xraH ∧
    decodeTableWord 8 0b10101101 = some .xraL ∧
    decodeTableWord 8 0b10101110 = some .xraM ∧
    decodeTableWord 8 0b10101111 = some .xraA := by decide

theorem test_map_row_B :
    decodeTableWord 8 0b10110000 = some .oraB ∧
    decodeTableWord 8 0b10110001 = some .oraC ∧
    decodeTableWord 8 0b10110010 = some .oraD ∧
    decodeTableWord 8 0b10110011 = some .oraE ∧
    decodeTableWord 8 0b10110100 = some .oraH ∧
    decodeTableWord 8 0b10110101 = some .oraL ∧
    decodeTableWord 8 0b10110110 = some .oraM ∧
    decodeTableWord 8 0b10110111 = some .oraA ∧
    decodeTableWord 8 0b10111000 = some .cmpB ∧
    decodeTableWord 8 0b10111001 = some .cmpC ∧
    decodeTableWord 8 0b10111010 = some .cmpD ∧
    decodeTableWord 8 0b10111011 = some .cmpE ∧
    decodeTableWord 8 0b10111100 = some .cmpH ∧
    decodeTableWord 8 0b10111101 = some .cmpL ∧
    decodeTableWord 8 0b10111110 = some .cmpM ∧
    decodeTableWord 8 0b10111111 = some .cmpA := by decide

theorem test_map_row_C :
    decodeTableWord 8 0b11000000 = some .rnz ∧
    decodeTableWord 8 0b11000001 = some .popB ∧
    decodeTableWord 24 0b101101011100001111000010 = some (.jnz 0xB5C3) ∧
    decodeTableWord 24 0b101101011100001111000011 = some (.jmp 0xB5C3) ∧
    decodeTableWord 24 0b101101011100001111000100 = some (.cnz 0xB5C3) ∧
    decodeTableWord 8 0b11000101 = some .pushB ∧
    decodeTableWord 16 0b1010011011000110 = some (.adi 0xA6) ∧
    decodeTableWord 8 0b11000111 = some .rst0 ∧
    decodeTableWord 8 0b11001000 = some .rz ∧
    decodeTableWord 8 0b11001001 = some .ret ∧
    decodeTableWord 24 0b101101011100001111001010 = some (.jz 0xB5C3) ∧
    decodeTableWord 8 0b11001011 = some (.undefined 0xCB) ∧
    decodeTableWord 24 0b101101011100001111001100 = some (.cz 0xB5C3) ∧
    decodeTableWord 24 0b101101011100001111001101 = some (.call 0xB5C3) ∧
    decodeTableWord 16 0b1010011011001110 = some (.aci 0xA6) ∧
    decodeTableWord 8 0b11001111 = some .rst1 := by decide

theorem test_map_row_D :
    decodeTableWord 8 0b11010000 = some .rnc ∧
    decodeTableWord 8 0b11010001 = some .popD ∧
    decodeTableWord 24 0b101101011100001111010010 = some (.jnc 0xB5C3) ∧
    decodeTableWord 16 0b1010011011010011 = some (.outPort 0xA6) ∧
    decodeTableWord 24 0b101101011100001111010100 = some (.cnc 0xB5C3) ∧
    decodeTableWord 8 0b11010101 = some .pushD ∧
    decodeTableWord 16 0b1010011011010110 = some (.sui 0xA6) ∧
    decodeTableWord 8 0b11010111 = some .rst2 ∧
    decodeTableWord 8 0b11011000 = some .rc ∧
    decodeTableWord 8 0b11011001 = some (.undefined 0xD9) ∧
    decodeTableWord 24 0b101101011100001111011010 = some (.jc 0xB5C3) ∧
    decodeTableWord 16 0b1010011011011011 = some (.inPort 0xA6) ∧
    decodeTableWord 24 0b101101011100001111011100 = some (.cc 0xB5C3) ∧
    decodeTableWord 8 0b11011101 = some (.undefined 0xDD) ∧
    decodeTableWord 16 0b1010011011011110 = some (.sbi 0xA6) ∧
    decodeTableWord 8 0b11011111 = some .rst3 := by decide

theorem test_map_row_E :
    decodeTableWord 8 0b11100000 = some .rpo ∧
    decodeTableWord 8 0b11100001 = some .popH ∧
    decodeTableWord 24 0b101101011100001111100010 = some (.jpo 0xB5C3) ∧
    decodeTableWord 8 0b11100011 = some .xthl ∧
    decodeTableWord 24 0b101101011100001111100100 = some (.cpo 0xB5C3) ∧
    decodeTableWord 8 0b11100101 = some .pushH ∧
    decodeTableWord 16 0b1010011011100110 = some (.ani 0xA6) ∧
    decodeTableWord 8 0b11100111 = some .rst4 ∧
    decodeTableWord 8 0b11101000 = some .rpe ∧
    decodeTableWord 8 0b11101001 = some .pchl ∧
    decodeTableWord 24 0b101101011100001111101010 = some (.jpe 0xB5C3) ∧
    decodeTableWord 8 0b11101011 = some .xchg ∧
    decodeTableWord 24 0b101101011100001111101100 = some (.cpe 0xB5C3) ∧
    decodeTableWord 8 0b11101101 = some (.undefined 0xED) ∧
    decodeTableWord 16 0b1010011011101110 = some (.xri 0xA6) ∧
    decodeTableWord 8 0b11101111 = some .rst5 := by decide

theorem test_map_row_F :
    decodeTableWord 8 0b11110000 = some .rp ∧
    decodeTableWord 8 0b11110001 = some .popPSW ∧
    decodeTableWord 24 0b101101011100001111110010 = some (.jp 0xB5C3) ∧
    decodeTableWord 8 0b11110011 = some .di ∧
    decodeTableWord 24 0b101101011100001111110100 = some (.cp 0xB5C3) ∧
    decodeTableWord 8 0b11110101 = some .pushPSW ∧
    decodeTableWord 16 0b1010011011110110 = some (.ori 0xA6) ∧
    decodeTableWord 8 0b11110111 = some .rst6 ∧
    decodeTableWord 8 0b11111000 = some .rm ∧
    decodeTableWord 8 0b11111001 = some .sphl ∧
    decodeTableWord 24 0b101101011100001111111010 = some (.jm 0xB5C3) ∧
    decodeTableWord 8 0b11111011 = some .ei ∧
    decodeTableWord 24 0b101101011100001111111100 = some (.cm 0xB5C3) ∧
    decodeTableWord 8 0b11111101 = some (.undefined 0xFD) ∧
    decodeTableWord 16 0b1010011011111110 = some (.cpi 0xA6) ∧
    decodeTableWord 8 0b11111111 = some .rst7 := by decide

/-- A table row without operand bits has operand bytes of zero. -/
theorem test_short_word_reads_zero_operand :
    decodeTableWord 8 0xC3 = some (.jmp 0x0000) ∧ decodeTableWord 8 0x3E = some (.mviA 0x00) := by decide

theorem test_decode_refuses_by_name :
    decode [] = .error .noOpcode ∧ decode [0xC3, 0x00] = .error .missingOperand ∧
      decode [0x3E] = .error .missingOperand := by
  refine ⟨rfl, rfl, rfl⟩

theorem test_encode_low_byte_first :
    encode (.call 0xEFFE) = [0xCD, 0xFE, 0xEF] ∧ encode (.mviL 0x7E) = [0x2E, 0x7E] := by decide

/-! ### One step: the vectors of the spec -/

/-- The reset state with the program counter and instruction bytes at an address. -/
def startAt (pc : Word) (bytes : List Byte) : State :=
  State.writeBytes { State.reset with pc := pc } pc bytes

/-- The outcome is a next state of which `p` holds. -/
def goes (r : Result) (p : State → Bool) : Bool :=
  match r with
  | .next t => p t
  | .fault _ => false
  | .refused _ => false

/-- The outcome is a fault. -/
def faults (r : Result) (f : Fault) : Bool :=
  match r with
  | .next _ => false
  | .fault g => decide (g = f)
  | .refused _ => false

/-- MOV B,C, R160. -/
theorem test_VT1 : goes (step { startAt 0x0100 [0x41] with b := 0x11, c := 0x22, f := Flags.ofByte 0xD5 })
    (fun t => decide (t.b = 0x22)) = true := by decide

/-- MOV A,A, R160. -/
theorem test_VT2 : goes (step { startAt 0x0100 [0x7F] with a := 0x5A })
    (fun t => decide (t.pc = 0x0101)) = true := by decide

/-- MOV E,M, R161. -/
theorem test_VT3 : goes (step { (startAt 0x0100 [0x5E]).writeByte 0x2050 0x9C with h := 0x20, l := 0x50 })
    (fun t => decide (t.e = 0x9C)) = true := by decide

/-- MOV M,A, R162. -/
theorem test_VT4 : goes (step { startAt 0x0100 [0x77] with a := 0x3C, h := 0xFF, l := 0xFF })
    (fun t => decide (t.readByte 0xFFFF = 0x3C)) = true := by decide

/-- MOV M,H, R162. -/
theorem test_VT5 : goes (step { startAt 0x0100 [0x74] with h := 0x21, l := 0x0 })
    (fun t => decide (t.readByte 0x2100 = 0x21)) = true := by decide

/-- MVI L,0x7E, R163. -/
theorem test_VT6 : goes (step (startAt 0x0100 [0x2E, 0x7E]))
    (fun t => decide (t.l = 0x7E)) = true := by decide

/-- MVI M,0xFF, R164. -/
theorem test_VT7 : goes (step { startAt 0x0100 [0x36, 0xFF] with h := 0x24, l := 0x0 })
    (fun t => decide (t.readByte 0x2400 = 0xFF)) = true := by decide

/-- LXI B,0x12FF, R165. -/
theorem test_VT8 : goes (step (startAt 0x0100 [0x01, 0xFF, 0x12]))
    (fun t => decide (t.b = 0x12 ∧ t.c = 0xFF)) = true := by decide

/-- LXI SP,0x2400, R165. -/
theorem test_VT9 : goes (step (startAt 0x0100 [0x31, 0x00, 0x24]))
    (fun t => decide (t.sp = 0x2400)) = true := by decide

/-- LXI H,imm16, R165. -/
theorem test_VT10 : goes (step (startAt 0xFFFE [0x21, 0x34, 0x12]))
    (fun t => decide (t.h = 0x12 ∧ t.l = 0x34 ∧ t.pc = 0x0001)) = true := by decide

/-- LDA 0x2300, R166. -/
theorem test_VT11 : goes (step ((startAt 0x0100 [0x3A, 0x00, 0x23]).writeByte 0x2300 0x77))
    (fun t => decide (t.a = 0x77)) = true := by decide

/-- STA 0x2301, R167. -/
theorem test_VT12 : goes (step { startAt 0x0100 [0x32, 0x01, 0x23] with a := 0xC4 })
    (fun t => decide (t.readByte 0x2301 = 0xC4)) = true := by decide

/-- LDAX B, R168. -/
theorem test_VT13 : goes (step { (startAt 0x0100 [0x0A]).writeByte 0x2010 0x5F with b := 0x20, c := 0x10 })
    (fun t => decide (t.a = 0x5F)) = true := by decide

/-- LDAX D, R168. -/
theorem test_VT14 : goes (step { (startAt 0x0100 [0x1A]).writeByte 0x2011 0xA0 with d := 0x20, e := 0x11 })
    (fun t => decide (t.a = 0xA0)) = true := by decide

/-- STAX B, R169. -/
theorem test_VT15 : goes (step { startAt 0x0100 [0x02] with a := 0x99, b := 0x3F, c := 0x16 })
    (fun t => decide (t.readByte 0x3F16 = 0x99)) = true := by decide

/-- STAX D, R169. -/
theorem test_VT16 : goes (step { startAt 0x0100 [0x12] with a := 0x1, d := 0x0, e := 0x0 })
    (fun t => decide (t.readByte 0x0000 = 0x01)) = true := by decide

/-- LHLD 0x025B, R170. -/
theorem test_VT17 : goes (step (((startAt 0x0100 [0x2A, 0x5B, 0x02]).writeByte 0x025B 0xFF).writeByte 0x025C 0x03))
    (fun t => decide (t.h = 0x3 ∧ t.l = 0xFF)) = true := by decide

/-- LHLD 0xFFFF, R170. -/
theorem test_VT18 : goes (step (((startAt 0x0100 [0x2A, 0xFF, 0xFF]).writeByte 0x0000 0xAB).writeByte 0xFFFF 0xCD))
    (fun t => decide (t.h = 0xAB ∧ t.l = 0xCD)) = true := by decide

/-- SHLD 0x010A, R171. -/
theorem test_VT19 : goes (step { startAt 0x0200 [0x22, 0x0A, 0x01] with h := 0xAE, l := 0x29 })
    (fun t => decide (t.readByte 0x010A = 0x29 ∧ t.readByte 0x010B = 0xAE)) = true := by decide

/-- XCHG, R172. -/
theorem test_VT20 : goes (step { startAt 0x0100 [0xEB] with d := 0x33, e := 0x55, h := 0x0, l := 0xFF, f := Flags.ofByte 0x45 })
    (fun t => decide (t.d = 0x0 ∧ t.e = 0xFF ∧ t.h = 0x33 ∧ t.l = 0x55)) = true := by decide

/-- XTHL, R173. -/
theorem test_VT21 : goes (step { ((startAt 0x0100 [0xE3]).writeByte 0x10AD 0xF0).writeByte 0x10AE 0x0D with h := 0xB, l := 0x3C, sp := 0x10AD })
    (fun t => decide (t.h = 0xD ∧ t.l = 0xF0 ∧ t.readByte 0x10AD = 0x3C ∧ t.readByte 0x10AE = 0x0B)) = true := by decide

/-- XTHL, R173. -/
theorem test_VT22 : goes (step { ((startAt 0x0100 [0xE3]).writeByte 0x0000 0x78).writeByte 0xFFFF 0x56 with h := 0x12, l := 0x34, sp := 0xFFFF })
    (fun t => decide (t.h = 0x78 ∧ t.l = 0x56 ∧ t.readByte 0x0000 = 0x12 ∧ t.readByte 0xFFFF = 0x34)) = true := by decide

/-- ADD D, R205. -/
theorem test_VA1 : goes (step { startAt 0x0100 [0x82] with a := 0x6C, d := 0x2E })
    (fun t => decide (t.a = 0x9A ∧ t.f.toByte = 0x94)) = true := by decide

/-- ADD A, R205. -/
theorem test_VA2 : goes (step { startAt 0x0100 [0x87] with a := 0x80 })
    (fun t => decide (t.a = 0x0 ∧ t.f.toByte = 0x45)) = true := by decide

/-- ADD M, R206. -/
theorem test_VA3 : goes (step { (startAt 0x0100 [0x86]).writeByte 0x2000 0x01 with a := 0xF, h := 0x20, l := 0x0 })
    (fun t => decide (t.a = 0x10 ∧ t.f.toByte = 0x10)) = true := by decide

/-- ADI 0x28, R207. -/
theorem test_VA4 : goes (step { startAt 0x0100 [0xC6, 0x28] with a := 0x50 })
    (fun t => decide (t.a = 0x78 ∧ t.f.toByte = 0x04)) = true := by decide

/-- ADI 0x01, R207. -/
theorem test_VA5 : goes (step { startAt 0x0100 [0xC6, 0x01] with a := 0xFF, f := Flags.ofByte 0x00 })
    (fun t => decide (t.a = 0x0 ∧ t.f.toByte = 0x55)) = true := by decide

/-- ADC C, R208. -/
theorem test_VA6 : goes (step { startAt 0x0100 [0x89] with a := 0x42, c := 0x3D, f := Flags.ofByte 0x01 })
    (fun t => decide (t.a = 0x80 ∧ t.f.toByte = 0x90)) = true := by decide

/-- ADC C, R208. -/
theorem test_VA7 : goes (step { startAt 0x0100 [0x89] with a := 0x42, c := 0x3D, f := Flags.ofByte 0x00 })
    (fun t => decide (t.a = 0x7F ∧ t.f.toByte = 0x00)) = true := by decide

/-- ACI 0x00, R210. -/
theorem test_VA8 : goes (step { startAt 0x0100 [0xCE, 0x00] with a := 0xFF, f := Flags.ofByte 0x01 })
    (fun t => decide (t.a = 0x0 ∧ t.f.toByte = 0x55)) = true := by decide

/-- ADC M, R209. -/
theorem test_VA9 : goes (step { (startAt 0x0100 [0x8E]).writeByte 0x3000 0x00 with a := 0xF, h := 0x30, l := 0x0, f := Flags.ofByte 0x01 })
    (fun t => decide (t.a = 0x10 ∧ t.f.toByte = 0x10)) = true := by decide

/-- SUB A, R211. -/
theorem test_VA10 : goes (step { startAt 0x0100 [0x97] with a := 0x3E, f := Flags.ofByte 0x01 })
    (fun t => decide (t.a = 0x0 ∧ t.f.z = true ∧ t.f.s = false ∧ t.f.p = true ∧ t.f.cy = false)) = true := by decide

/-- SUB B, R211. -/
theorem test_VA11 : goes (step { startAt 0x0100 [0x90] with a := 0x10, b := 0x1 })
    (fun t => decide (t.a = 0xF ∧ t.f.z = false ∧ t.f.s = false ∧ t.f.p = true ∧ t.f.cy = false)) = true := by decide

/-- SUI 0x01, R213. -/
theorem test_VA12 : goes (step { startAt 0x0100 [0xD6, 0x01] with a := 0x0 })
    (fun t => decide (t.a = 0xFF ∧ t.f.z = false ∧ t.f.s = true ∧ t.f.p = true ∧ t.f.cy = true)) = true := by decide

/-- SUB M, R212. -/
theorem test_VA13 : goes (step { (startAt 0x0100 [0x96]).writeByte 0x2000 0x99 with a := 0x99, h := 0x20, l := 0x0 })
    (fun t => decide (t.a = 0x0 ∧ t.f.z = true ∧ t.f.s = false ∧ t.f.p = true ∧ t.f.cy = false)) = true := by decide

/-- SBB L, R214. -/
theorem test_VA14 : goes (step { startAt 0x0100 [0x9D] with a := 0x4, l := 0x2, f := Flags.ofByte 0x01 })
    (fun t => decide (t.a = 0x1 ∧ t.f.z = false ∧ t.f.s = false ∧ t.f.p = false ∧ t.f.cy = false)) = true := by decide

/-- SBI 0xFF, R216. -/
theorem test_VA15 : goes (step { startAt 0x0100 [0xDE, 0xFF] with a := 0x0, f := Flags.ofByte 0x01 })
    (fun t => decide (t.f.z = true ∧ t.f.s = false ∧ t.f.p = true ∧ t.f.cy = true)) = true := by decide

/-- SBI 0x00, R216. -/
theorem test_VA16 : goes (step { startAt 0x0100 [0xDE, 0x00] with a := 0x0, f := Flags.ofByte 0x01 })
    (fun t => decide (t.a = 0xFF ∧ t.f.z = false ∧ t.f.s = true ∧ t.f.p = true ∧ t.f.cy = true)) = true := by decide

/-- SBB M, R215. -/
theorem test_VA17 : goes (step { (startAt 0x0100 [0x9E]).writeByte 0x2000 0x0F with a := 0x50, h := 0x20, l := 0x0, f := Flags.ofByte 0x00 })
    (fun t => decide (t.a = 0x41 ∧ t.f.z = false ∧ t.f.s = false ∧ t.f.p = true ∧ t.f.cy = false)) = true := by decide

/-- INR B, R217. -/
theorem test_VA18 : goes (step { startAt 0x0100 [0x04] with b := 0xFF, f := Flags.ofByte 0x01 })
    (fun t => decide (t.b = 0x0 ∧ t.f.toByte = 0x55)) = true := by decide

/-- INR A, R217. -/
theorem test_VA19 : goes (step { startAt 0x0100 [0x3C] with a := 0xF, f := Flags.ofByte 0x00 })
    (fun t => decide (t.a = 0x10 ∧ t.f.toByte = 0x10)) = true := by decide

/-- INR C, R217. -/
theorem test_VA20 : goes (step { startAt 0x0100 [0x0C] with c := 0x7F })
    (fun t => decide (t.c = 0x80 ∧ t.f.toByte = 0x90)) = true := by decide

/-- INR M, R218. -/
theorem test_VA21 : goes (step { (startAt 0x0100 [0x34]).writeByte 0x2500 0x99 with h := 0x25, l := 0x0 })
    (fun t => decide (t.f.toByte = 0x84 ∧ t.readByte 0x2500 = 0x9A)) = true := by decide

/-- DCR B, R219. -/
theorem test_VA22 : goes (step { startAt 0x0100 [0x05] with b := 0x0, f := Flags.ofByte 0x00 })
    (fun t => decide (t.b = 0xFF ∧ t.f.z = false ∧ t.f.s = true ∧ t.f.p = true ∧ t.f.cy = false)) = true := by decide

/-- DCR A, R219. -/
theorem test_VA23 : goes (step { startAt 0x0100 [0x3D] with a := 0x1, f := Flags.ofByte 0x01 })
    (fun t => decide (t.a = 0x0 ∧ t.f.z = true ∧ t.f.s = false ∧ t.f.p = true ∧ t.f.cy = true)) = true := by decide

/-- DCR E, R219. -/
theorem test_VA24 : goes (step { startAt 0x0100 [0x1D] with e := 0x10 })
    (fun t => decide (t.e = 0xF ∧ t.f.z = false ∧ t.f.s = false ∧ t.f.p = true ∧ t.f.cy = false)) = true := by decide

/-- DCR M, R220. -/
theorem test_VA25 : goes (step { (startAt 0x0100 [0x35]).writeByte 0x3A7C 0x40 with h := 0x3A, l := 0x7C })
    (fun t => decide (t.f.z = false ∧ t.f.s = false ∧ t.f.p = true ∧ t.f.cy = false ∧ t.readByte 0x3A7C = 0x3F)) = true := by decide

/-- INX H, R221. -/
theorem test_VA26 : goes (step { startAt 0x0100 [0x23] with h := 0xFF, l := 0xFF, f := Flags.ofByte 0xD5 })
    (fun t => decide (t.h = 0x0 ∧ t.l = 0x0)) = true := by decide

/-- INX SP, R221. -/
theorem test_VA27 : goes (step { startAt 0x0100 [0x33] with sp := 0xFFFF })
    (fun t => decide (t.sp = 0x0)) = true := by decide

/-- INX D, R221. -/
theorem test_VA28 : goes (step { startAt 0x0100 [0x13] with d := 0x38, e := 0xFF })
    (fun t => decide (t.d = 0x39 ∧ t.e = 0x0)) = true := by decide

/-- DCX B, R222. -/
theorem test_VA29 : goes (step { startAt 0x0100 [0x0B] with b := 0x0, c := 0x0, f := Flags.ofByte 0x00 })
    (fun t => decide (t.b = 0xFF ∧ t.c = 0xFF)) = true := by decide

/-- DCX H, R222. -/
theorem test_VA30 : goes (step { startAt 0x0100 [0x2B] with h := 0x98, l := 0x0 })
    (fun t => decide (t.h = 0x97 ∧ t.l = 0xFF)) = true := by decide

/-- DAD B, R223. -/
theorem test_VA31 : goes (step { startAt 0x0100 [0x09] with b := 0x33, c := 0x9F, h := 0xA1, l := 0x7B, f := Flags.ofByte 0xD4 })
    (fun t => decide (t.h = 0xD5 ∧ t.l = 0x1A ∧ t.f.toByte = 0xD4)) = true := by decide

/-- DAD H, R223. -/
theorem test_VA32 : goes (step { startAt 0x0100 [0x29] with h := 0x80, l := 0x0, f := Flags.ofByte 0x00 })
    (fun t => decide (t.h = 0x0 ∧ t.f.toByte = 0x01)) = true := by decide

/-- DAD SP, R223. -/
theorem test_VA33 : goes (step { startAt 0x0100 [0x39] with h := 0x0, l := 0x1, f := Flags.ofByte 0x00, sp := 0xFFFF })
    (fun t => decide (t.l = 0x0 ∧ t.f.toByte = 0x01)) = true := by decide

/-- DAD D, R223. -/
theorem test_VA34 : goes (step { startAt 0x0100 [0x19] with d := 0xFF, e := 0xFF, h := 0x0, l := 0x0, f := Flags.ofByte 0x01 })
    (fun t => decide (t.h = 0xFF ∧ t.l = 0xFF ∧ t.f.toByte = 0x00)) = true := by decide

/-- ANA C, R252. -/
theorem test_VL1 : goes (step { startAt 0x0100 [0xA1] with a := 0xFC, c := 0xF, f := Flags.ofByte 0x01 })
    (fun t => decide (t.a = 0xC ∧ t.f.z = false ∧ t.f.s = false ∧ t.f.p = true ∧ t.f.cy = false)) = true := by decide

/-- ANA A, R252. -/
theorem test_VL2 : goes (step { startAt 0x0100 [0xA7] with a := 0x0, f := Flags.ofByte 0x01 })
    (fun t => decide (t.f.z = true ∧ t.f.s = false ∧ t.f.p = true ∧ t.f.cy = false)) = true := by decide

/-- ANA M, R253. -/
theorem test_VL3 : goes (step { (startAt 0x0100 [0xA6]).writeByte 0x2000 0x80 with a := 0xFF, h := 0x20, l := 0x0 })
    (fun t => decide (t.a = 0x80 ∧ t.f.z = false ∧ t.f.s = true ∧ t.f.p = false ∧ t.f.cy = false)) = true := by decide

/-- ANI 0x0F, R254. -/
theorem test_VL4 : goes (step { startAt 0x0100 [0xE6, 0x0F] with a := 0x3A, f := Flags.ofByte 0x01 })
    (fun t => decide (t.a = 0xA ∧ t.f.z = false ∧ t.f.s = false ∧ t.f.p = true ∧ t.f.cy = false)) = true := by decide

/-- XRA A, R255. -/
theorem test_VL5 : goes (step { startAt 0x0100 [0xAF] with a := 0x5C, f := Flags.ofByte 0x11 })
    (fun t => decide (t.a = 0x0 ∧ t.f.toByte = 0x44)) = true := by decide

/-- XRA B, R255. -/
theorem test_VL6 : goes (step { startAt 0x0100 [0xA8] with a := 0xFF, b := 0xF, f := Flags.ofByte 0x11 })
    (fun t => decide (t.a = 0xF0 ∧ t.f.toByte = 0x84)) = true := by decide

/-- XRA M, R256. -/
theorem test_VL7 : goes (step { (startAt 0x0100 [0xAE]).writeByte 0x2000 0xAA with a := 0x55, h := 0x20, l := 0x0 })
    (fun t => decide (t.a = 0xFF ∧ t.f.toByte = 0x84)) = true := by decide

/-- XRI 0x81, R257. -/
theorem test_VL8 : goes (step { startAt 0x0100 [0xEE, 0x81] with a := 0x3B, f := Flags.ofByte 0x01 })
    (fun t => decide (t.a = 0xBA ∧ t.f.toByte = 0x80)) = true := by decide

/-- ORA C, R258. -/
theorem test_VL9 : goes (step { startAt 0x0100 [0xB1] with a := 0x33, c := 0xF, f := Flags.ofByte 0x11 })
    (fun t => decide (t.a = 0x3F ∧ t.f.toByte = 0x04)) = true := by decide

/-- ORA A, R258. -/
theorem test_VL10 : goes (step { startAt 0x0100 [0xB7] with a := 0x0, f := Flags.ofByte 0x11 })
    (fun t => decide (t.f.toByte = 0x44)) = true := by decide

/-- ORA M, R259. -/
theorem test_VL11 : goes (step { (startAt 0x0100 [0xB6]).writeByte 0x2000 0x80 with a := 0x1, h := 0x20, l := 0x0 })
    (fun t => decide (t.a = 0x81 ∧ t.f.toByte = 0x84)) = true := by decide

/-- ORI 0x0F, R260. -/
theorem test_VL12 : goes (step { startAt 0x0100 [0xF6, 0x0F] with a := 0xB5, f := Flags.ofByte 0x01 })
    (fun t => decide (t.a = 0xBF ∧ t.f.toByte = 0x80)) = true := by decide

/-- CMP E, R261. -/
theorem test_VL13 : goes (step { startAt 0x0100 [0xBB] with a := 0xA, e := 0x5 })
    (fun t => decide (t.f.z = false ∧ t.f.s = false ∧ t.f.p = true ∧ t.f.cy = false)) = true := by decide

/-- CMP E, R261. -/
theorem test_VL14 : goes (step { startAt 0x0100 [0xBB] with a := 0x2, e := 0x5 })
    (fun t => decide (t.f.z = false ∧ t.f.s = true ∧ t.f.p = false ∧ t.f.cy = true)) = true := by decide

/-- CMP A, R261. -/
theorem test_VL15 : goes (step { startAt 0x0100 [0xBF] with a := 0xE5, f := Flags.ofByte 0x01 })
    (fun t => decide (t.f.z = true ∧ t.f.s = false ∧ t.f.p = true ∧ t.f.cy = false)) = true := by decide

/-- CMP M, R262. -/
theorem test_VL16 : goes (step { (startAt 0x0100 [0xBE]).writeByte 0x2000 0x7F with a := 0x80, h := 0x20, l := 0x0 })
    (fun t => decide (t.f.z = false ∧ t.f.s = false ∧ t.f.p = false ∧ t.f.cy = false)) = true := by decide

/-- CPI 0xFF, R263. -/
theorem test_VL17 : goes (step { startAt 0x0100 [0xFE, 0xFF] with a := 0x0 })
    (fun t => decide (t.f.z = false ∧ t.f.s = false ∧ t.f.p = false ∧ t.f.cy = true)) = true := by decide

/-- CPI 0x40, R263. -/
theorem test_VL18 : goes (step { startAt 0x0100 [0xFE, 0x40] with a := 0x4A })
    (fun t => decide (t.f.z = false ∧ t.f.s = false ∧ t.f.p = true ∧ t.f.cy = false)) = true := by decide

/-- CMA, R264. -/
theorem test_VL19 : goes (step { startAt 0x0100 [0x2F] with a := 0x51, f := Flags.ofByte 0xD5 })
    (fun t => decide (t.a = 0xAE ∧ t.f.toByte = 0xD5)) = true := by decide

/-- STC, R265. -/
theorem test_VL20 : goes (step { startAt 0x0100 [0x37] with f := Flags.ofByte 0x00 })
    (fun t => decide (t.f.toByte = 0x01)) = true := by decide

/-- STC, R265. -/
theorem test_VL21 : goes (step { startAt 0x0100 [0x37] with f := Flags.ofByte 0xD5 })
    (fun t => decide (t.f.toByte = 0xD5)) = true := by decide

/-- CMC, R266. -/
theorem test_VL22 : goes (step { startAt 0x0100 [0x3F] with f := Flags.ofByte 0x01 })
    (fun t => decide (t.f.toByte = 0x00)) = true := by decide

/-- CMC, R266. -/
theorem test_VL23 : goes (step { startAt 0x0100 [0x3F] with f := Flags.ofByte 0x54 })
    (fun t => decide (t.f.toByte = 0x55)) = true := by decide

/-- RLC, R290. -/
theorem test_VR1 : goes (step { startAt 0x0100 [0x07] with a := 0xF2, f := Flags.ofByte 0x54 })
    (fun t => decide (t.a = 0xE5 ∧ t.f.toByte = 0x55)) = true := by decide

/-- RLC, R290. -/
theorem test_VR2 : goes (step { startAt 0x0100 [0x07] with a := 0x0, f := Flags.ofByte 0x01 })
    (fun t => decide (t.f.toByte = 0x00)) = true := by decide

/-- RRC, R291. -/
theorem test_VR3 : goes (step { startAt 0x0100 [0x0F] with a := 0xF2, f := Flags.ofByte 0x01 })
    (fun t => decide (t.a = 0x79 ∧ t.f.toByte = 0x00)) = true := by decide

/-- RRC, R291. -/
theorem test_VR4 : goes (step { startAt 0x0100 [0x0F] with a := 0x1, f := Flags.ofByte 0x00 })
    (fun t => decide (t.a = 0x80 ∧ t.f.toByte = 0x01)) = true := by decide

/-- RAL, R292. -/
theorem test_VR5 : goes (step { startAt 0x0100 [0x17] with a := 0xB5, f := Flags.ofByte 0x00 })
    (fun t => decide (t.a = 0x6A ∧ t.f.toByte = 0x01)) = true := by decide

/-- RAL, R292. -/
theorem test_VR6 : goes (step { startAt 0x0100 [0x17] with a := 0x0, f := Flags.ofByte 0x01 })
    (fun t => decide (t.a = 0x1 ∧ t.f.toByte = 0x00)) = true := by decide

/-- RAR, R293. -/
theorem test_VR7 : goes (step { startAt 0x0100 [0x1F] with a := 0x6A, f := Flags.ofByte 0x01 })
    (fun t => decide (t.a = 0xB5 ∧ t.f.toByte = 0x00)) = true := by decide

/-- RAR, R293. -/
theorem test_VR8 : goes (step { startAt 0x0100 [0x1F] with a := 0x1, f := Flags.ofByte 0x10 })
    (fun t => decide (t.a = 0x0 ∧ t.f.toByte = 0x11)) = true := by decide

/-- JMP 0x1800, R300. -/
theorem test_VB1 : goes (step (startAt 0x0100 [0xC3, 0x00, 0x18]))
    (fun t => decide (t.pc = 0x1800)) = true := by decide

/-- JMP 0x0100, R300. -/
theorem test_VB2 : goes (step (startAt 0x0100 [0xC3, 0x00, 0x01]))
    (fun t => decide (t.pc = 0x0100)) = true := by decide

/-- JNZ 0x1234, R301. -/
theorem test_VB3 : goes (step { startAt 0x0100 [0xC2, 0x34, 0x12] with f := Flags.ofByte 0x40 })
    (fun t => decide (t.pc = 0x0103)) = true := by decide

/-- JNZ 0x1234, R301. -/
theorem test_VB4 : goes (step { startAt 0x0100 [0xC2, 0x34, 0x12] with f := Flags.ofByte 0x00 })
    (fun t => decide (t.pc = 0x1234)) = true := by decide

/-- JZ 0x1234, R301. -/
theorem test_VB5 : goes (step { startAt 0x0100 [0xCA, 0x34, 0x12] with f := Flags.ofByte 0x40 })
    (fun t => decide (t.pc = 0x1234)) = true := by decide

/-- JNC 0x1234, R301. -/
theorem test_VB6 : goes (step { startAt 0x0100 [0xD2, 0x34, 0x12] with f := Flags.ofByte 0x01 })
    (fun t => decide (t.pc = 0x0103)) = true := by decide

/-- JC 0x1234, R301. -/
theorem test_VB7 : goes (step { startAt 0x0100 [0xDA, 0x34, 0x12] with f := Flags.ofByte 0x01 })
    (fun t => decide (t.pc = 0x1234)) = true := by decide

/-- JPO 0x1234, R301. -/
theorem test_VB8 : goes (step { startAt 0x0100 [0xE2, 0x34, 0x12] with f := Flags.ofByte 0x04 })
    (fun t => decide (t.pc = 0x0103)) = true := by decide

/-- JPE 0x1234, R301. -/
theorem test_VB9 : goes (step { startAt 0x0100 [0xEA, 0x34, 0x12] with f := Flags.ofByte 0x04 })
    (fun t => decide (t.pc = 0x1234)) = true := by decide

/-- JP 0x1234, R301. -/
theorem test_VB10 : goes (step { startAt 0x0100 [0xF2, 0x34, 0x12] with f := Flags.ofByte 0x80 })
    (fun t => decide (t.pc = 0x0103)) = true := by decide

/-- JM 0x1234, R301. -/
theorem test_VB11 : goes (step { startAt 0x0100 [0xFA, 0x34, 0x12] with f := Flags.ofByte 0x80 })
    (fun t => decide (t.pc = 0x1234)) = true := by decide

/-- JC 0x1234, R301. -/
theorem test_VB12 : goes (step { startAt 0xFFFE [0xDA, 0x34, 0x12] with f := Flags.ofByte 0x00 })
    (fun t => decide (t.pc = 0x0001)) = true := by decide

/-- CALL 0xEFFE, R302. -/
theorem test_VB13 : goes (step { startAt 0xABCD [0xCD, 0xFE, 0xEF] with sp := 0xDCBA })
    (fun t => decide (t.sp = 0xDCB8 ∧ t.readByte 0xDCB8 = 0xD0 ∧ t.readByte 0xDCB9 = 0xAB ∧ t.pc = 0xEFFE)) = true := by decide

/-- CALL 0x2000, R302. -/
theorem test_VB14 : goes (step { startAt 0xFFFD [0xCD, 0x00, 0x20] with sp := 0x1 })
    (fun t => decide (t.sp = 0xFFFF ∧ t.readByte 0xFFFF = 0x00 ∧ t.pc = 0x2000)) = true := by decide

/-- CC 0x3000, R303. -/
theorem test_VB15 : goes (step { startAt 0x0200 [0xDC, 0x00, 0x30] with f := Flags.ofByte 0x01, sp := 0x2400 })
    (fun t => decide (t.sp = 0x23FE ∧ t.readByte 0x23FE = 0x03 ∧ t.readByte 0x23FF = 0x02 ∧ t.pc = 0x3000)) = true := by decide

/-- CC 0x3000, R303. -/
theorem test_VB16 : goes (step { startAt 0x0200 [0xDC, 0x00, 0x30] with f := Flags.ofByte 0x00, sp := 0x2400 })
    (fun t => decide (t.pc = 0x0203)) = true := by decide

/-- CPE 0x3000, R303. -/
theorem test_VB17 : goes (step { startAt 0x0200 [0xEC, 0x00, 0x30] with f := Flags.ofByte 0x04, sp := 0x2400 })
    (fun t => decide (t.sp = 0x23FE ∧ t.readByte 0x23FE = 0x03 ∧ t.readByte 0x23FF = 0x02 ∧ t.pc = 0x3000)) = true := by decide

/-- CM 0x3000, R303. -/
theorem test_VB18 : goes (step { startAt 0x0200 [0xFC, 0x00, 0x30] with f := Flags.ofByte 0x00, sp := 0x2400 })
    (fun t => decide (t.pc = 0x0203)) = true := by decide

/-- RET, R304. -/
theorem test_VB19 : goes (step { ((startAt 0xEFFE [0xC9]).writeByte 0xDCB8 0xD0).writeByte 0xDCB9 0xAB with sp := 0xDCB8 })
    (fun t => decide (t.sp = 0xDCBA ∧ t.pc = 0xABD0)) = true := by decide

/-- RET, R304. -/
theorem test_VB20 : goes (step { ((startAt 0x0300 [0xC9]).writeByte 0x0000 0x12).writeByte 0xFFFF 0x34 with sp := 0xFFFF })
    (fun t => decide (t.sp = 0x1 ∧ t.pc = 0x1234)) = true := by decide

/-- RZ, R305. -/
theorem test_VB21 : goes (step { ((startAt 0x3000 [0xC8]).writeByte 0x23FE 0x03).writeByte 0x23FF 0x02 with f := Flags.ofByte 0x40, sp := 0x23FE })
    (fun t => decide (t.sp = 0x2400 ∧ t.pc = 0x0203)) = true := by decide

/-- RZ, R305. -/
theorem test_VB22 : goes (step { ((startAt 0x3000 [0xC8]).writeByte 0x23FE 0x03).writeByte 0x23FF 0x02 with f := Flags.ofByte 0x00, sp := 0x23FE })
    (fun t => decide (t.pc = 0x3001)) = true := by decide

/-- RNC, R305. -/
theorem test_VB23 : goes (step { ((startAt 0x3000 [0xD0]).writeByte 0x23FE 0x03).writeByte 0x23FF 0x02 with f := Flags.ofByte 0x00, sp := 0x23FE })
    (fun t => decide (t.sp = 0x2400 ∧ t.pc = 0x0203)) = true := by decide

/-- RM, R305. -/
theorem test_VB24 : goes (step { ((startAt 0x3000 [0xF8]).writeByte 0x23FE 0x03).writeByte 0x23FF 0x02 with f := Flags.ofByte 0x80, sp := 0x23FE })
    (fun t => decide (t.sp = 0x2400 ∧ t.pc = 0x0203)) = true := by decide

/-- PCHL, R306. -/
theorem test_VB25 : goes (step { startAt 0x0100 [0xE9] with h := 0x41, l := 0x3E })
    (fun t => decide (t.pc = 0x413E)) = true := by decide

/-- RST 2, R307. -/
theorem test_VB26 : goes (step { startAt 0x1234 [0xD7] with sp := 0x2400, ie := true })
    (fun t => decide (t.sp = 0x23FE ∧ t.readByte 0x23FE = 0x35 ∧ t.readByte 0x23FF = 0x12 ∧ t.pc = 0x0010)) = true := by decide

/-- RST 7, R307. -/
theorem test_VB27 : goes (step { startAt 0xFFFF [0xFF] with sp := 0x0 })
    (fun t => decide (t.sp = 0xFFFE ∧ t.readByte 0xFFFF = 0x00 ∧ t.pc = 0x0038)) = true := by decide

/-- RST 0, R307. -/
theorem test_VB28 : goes (step { startAt 0x0500 [0xC7] with a := 0x55, sp := 0x2400 })
    (fun t => decide (t.sp = 0x23FE ∧ t.readByte 0x23FE = 0x01 ∧ t.readByte 0x23FF = 0x05 ∧ t.pc = 0x0000)) = true := by decide

/-- PUSH B, R341. -/
theorem test_VS1 : goes (step { startAt 0x0100 [0xC5] with b := 0x12, c := 0x34, sp := 0x2400 })
    (fun t => decide (t.sp = 0x23FE ∧ t.readByte 0x23FE = 0x34 ∧ t.readByte 0x23FF = 0x12)) = true := by decide

/-- PUSH D, R341. -/
theorem test_VS2 : goes (step { startAt 0x0100 [0xD5] with d := 0x8F, e := 0x9D, sp := 0x3A2C })
    (fun t => decide (t.sp = 0x3A2A ∧ t.readByte 0x3A2A = 0x9D ∧ t.readByte 0x3A2B = 0x8F)) = true := by decide

/-- PUSH H, R341. -/
theorem test_VS3 : goes (step { startAt 0x0100 [0xE5] with h := 0xAB, l := 0xCD, sp := 0x0 })
    (fun t => decide (t.sp = 0xFFFE ∧ t.readByte 0xFFFE = 0xCD ∧ t.readByte 0xFFFF = 0xAB)) = true := by decide

/-- PUSH PSW, R342. -/
theorem test_VS4 : goes (step { startAt 0x0100 [0xF5] with a := 0x1F, f := Flags.ofByte 0x45, sp := 0x502A })
    (fun t => decide (t.sp = 0x5028 ∧ t.readByte 0x5028 = 0x45 ∧ t.readByte 0x5029 = 0x1F)) = true := by decide

/-- PUSH PSW, R342. -/
theorem test_VS5 : goes (step { startAt 0x0100 [0xF5] with a := 0xA5, f := Flags.ofByte 0xFF, sp := 0x2400 })
    (fun t => decide (t.sp = 0x23FE ∧ t.readByte 0x23FE = 0xFF ∧ t.readByte 0x23FF = 0xA5)) = true := by decide

/-- POP H, R343. -/
theorem test_VS6 : goes (step { ((startAt 0x0100 [0xE1]).writeByte 0x1239 0x3D).writeByte 0x123A 0x93 with sp := 0x1239 })
    (fun t => decide (t.h = 0x93 ∧ t.l = 0x3D ∧ t.sp = 0x123B)) = true := by decide

/-- POP B, R343. -/
theorem test_VS7 : goes (step { ((startAt 0x0100 [0xC1]).writeByte 0x0000 0x22).writeByte 0xFFFF 0x11 with sp := 0xFFFF })
    (fun t => decide (t.b = 0x22 ∧ t.c = 0x11 ∧ t.sp = 0x1)) = true := by decide

/-- POP D, R343. -/
theorem test_VS8 : goes (step { ((startAt 0x0100 [0xD1]).writeByte 0x2000 0xEE).writeByte 0x2001 0xDD with sp := 0x2000 })
    (fun t => decide (t.d = 0xDD ∧ t.e = 0xEE ∧ t.sp = 0x2002)) = true := by decide

/-- POP PSW, R344. -/
theorem test_VS9 : goes (step { ((startAt 0x0100 [0xF1]).writeByte 0x2C00 0xC3).writeByte 0x2C01 0xFF with sp := 0x2C00 })
    (fun t => decide (t.a = 0xFF ∧ t.f.toByte = 0xC3 ∧ t.sp = 0x2C02)) = true := by decide

/-- POP PSW, R344. -/
theorem test_VS10 : goes (step { ((startAt 0x0100 [0xF1]).writeByte 0x2C00 0x2A).writeByte 0x2C01 0x00 with f := Flags.ofByte 0xD5, sp := 0x2C00 })
    (fun t => decide (t.a = 0x0 ∧ t.f.toByte = 0x2A ∧ t.sp = 0x2C02)) = true := by decide

/-- SPHL, R345. -/
theorem test_VS11 : goes (step { startAt 0x0100 [0xF9] with h := 0x50, l := 0x6C })
    (fun t => decide (t.sp = 0x506C)) = true := by decide

/-- NOP, R370. -/
theorem test_VC1 : goes (step (startAt 0xFFFF [0x00]))
    (fun t => decide (t.pc = 0x0000)) = true := by decide

/-- EI, R371. -/
theorem test_VC2 : goes (step { startAt 0x0100 [0xFB] with ie := false })
    (fun t => decide (t.ie = true)) = true := by decide

/-- DI, R372. -/
theorem test_VC3 : goes (step { startAt 0x0100 [0xF3] with ie := true })
    (fun t => decide (t.ie = false)) = true := by decide

/-- HLT, R373. -/
theorem test_VC4 : goes (step { startAt 0x0010 [0x76] with ie := true })
    (fun t => decide (t.halt = true)) = true := by decide

/-- IN 1 returns P1, IN 3 the window at offset 3, R360, R436 (VI1, VI6). -/
theorem test_VI1_VI6 :
    goes (step { startAt 0x0100 [0xDB, 0x01] with p1 := 0x15 }) (fun t => decide (t.a = 0x15)) = true ∧
    goes (step { startAt 0x0100 [0xDB, 0x03] with srHi := 0x55, srLo := 0xAA, srOff := 3 })
      (fun t => decide (t.a = 0xAD ∧ t.pc = 0x0102)) = true := by decide

/-- IN 2 returns P2 and not the offset; the ends of the offset's range, R360, R436 (VI2, VI3, VI10). -/
theorem test_VI2_VI3_VI10 :
    goes (step { startAt 0x0100 [0xDB, 0x02] with p2 := 0x04, srOff := 5 }) (fun t => decide (t.a = 0x04)) = true ∧
    goes (step { startAt 0x0100 [0xDB, 0x03] with srHi := 0x55, srLo := 0xAA, srOff := 0 })
      (fun t => decide (t.a = 0x55)) = true ∧
    goes (step { startAt 0x0100 [0xDB, 0x03] with srHi := 0x55, srLo := 0xAA, srOff := 7 })
      (fun t => decide (t.a = 0xD5)) = true := by decide

/-- OUT 2 keeps three bits, OUT 4 shifts, R434, R435 (VI11, VI12). -/
theorem test_VI11_VI12 :
    goes (step { startAt 0x0100 [0xD3, 0x02] with a := 0xFF, p2 := 0x01 })
      (fun t => decide (t.srOff = 7 ∧ t.p2 = 0x01)) = true ∧
    goes (step { startAt 0x0100 [0xD3, 0x04] with a := 0x55, srHi := 0xAA })
      (fun t => decide (t.srHi = 0x55 ∧ t.srLo = 0xAA)) = true := by decide

/-- Only rising edges emit, per port, R437 (VI13, VI14, VI15). -/
theorem test_VI13_VI14_VI15 :
    goes (step { startAt 0x0100 [0xD3, 0x03] with a := 0x05, snd3 := 0x01 })
      (fun t => decide (t.snd3 = 0x05 ∧ t.sound = [⟨.port3, 0b00000100⟩])) = true ∧
    goes (step { startAt 0x0100 [0xD3, 0x03] with a := 0x00, snd3 := 0xFF })
      (fun t => decide (t.snd3 = 0x00 ∧ t.sound = [])) = true ∧
    goes (step { startAt 0x0100 [0xD3, 0x05] with a := 0x1F, snd3 := 0x1F })
      (fun t => decide (t.snd5 = 0x1F ∧ t.sound = [⟨.port5, 0b00011111⟩])) = true := by decide

/-- The DAA rows on which the two values of `P_DAA_HI` differ, R224 (VA35, VA40). -/
theorem test_VA35_VA40 :
    (daaResultWith .pre 0x9B false false = 0xA1 ∧ daaResultWith .post 0x9B false false = 0x01) ∧
      daaResultWith .pre 0xFA false false = 0x60 ∧ daaResultWith .post 0xFA false false = 0x00 := by decide

/-- DAA rows on which they agree, R224 (VA38, VA42). -/
theorem test_VA38_VA42 : ∀ reading ∈ [DaaHi.pre, DaaHi.post],
    (Flags.afterDaaWith reading (Flags.ofByte 0x01) 0x12).toByte = 0x05 ∧
      daaResultWith reading 0x99 true true = 0xFF ∧
      (Flags.afterDaaWith reading (Flags.ofByte 0x11) 0x99).toByte = 0x95 := by decide

/-- The two readings of `P_SUB_AUX`, R139: `0x10 - 0x01` borrows out of bit 3 (VA11), `0x3E - 0x3E` does not (VA10). -/
theorem test_VA10_VA11 :
    auxSubWith .borrow 0x10 0x01 false = true ∧ auxSubWith .inverted 0x10 0x01 false = false ∧
      auxSubWith .borrow 0x3E 0x3E false = false ∧ auxSubWith .inverted 0x3E 0x3E false = true := by decide

/-- The twelve undefined bytes fault, R375 (VC5 to VC16). -/
theorem test_VC5_to_VC16 :
    undefinedOpcodes.all (fun op => faults (step (startAt 0x0100 [op])) (.unimplementedOpcode op)) = true := by decide

/-- A delivery is taken, lost, or turned down: R402, R410 (VX1, VX4, VX3). -/
theorem test_VX1_VX4_VX3 :
    (match deliver 1 { State.reset with sp := 0xFFFF, ie := true, pc := 0xAABB } with
      | .ok t => decide (t.readByte 0xFFFD = 0xBB ∧ t.readByte 0xFFFE = 0xAA ∧ t.sp = 0xFFFD ∧ t.pc = 0x0008 ∧
          t.ie = false)
      | .invalidVector => false) = true ∧
    deliver 2 { State.reset with sp := 0x2400, pc := 0x1234 } = .ok { State.reset with sp := 0x2400, pc := 0x1234 } ∧
    deliver 8 { State.reset with sp := 0xFFFF, pc := 0xAABB } = .invalidVector := by decide

/-- The highest vector enters at `0x0038`, R410 (VX6). -/
theorem test_VX6 :
    (match deliver 7 { State.reset with sp := 0x2400, ie := true, pc := 0x1234 } with
      | .ok t => decide (t.pc = 0x0038 ∧ t.sp = 0x23FE ∧ t.readByte 0x23FE = 0x34)
      | .invalidVector => false) = true := by decide

/-- A placed instruction is the one that runs, also where the core was halted. -/
theorem test_withFetchWord_runs :
    goes (step (({ State.reset with halt := true } : State).withFetchWord 16 0x423E))
      (fun t => decide (t.a = 0x42 ∧ t.pc = 0x0002)) = true := by decide

/-- From reset with nothing placed the core executes NOP, R370. -/
theorem test_reset_runs_nop : goes (step State.reset) (fun t => decide (t.pc = 0x0001 ∧ t.mem = [])) = true := by
  decide

/-- `execute` returns the cycle count of the branch taken or not, R480, R481 (VB15, VB16, VB21, VB22). -/
theorem test_cycles_taken_and_not :
    defaultCycles 0xDC true = 17 ∧ defaultCycles 0xDC false = 11 ∧ defaultCycles 0xC8 true = 11 ∧
      defaultCycles 0xC8 false = 5 ∧ conditionHeld 0xDC (Flags.ofByte 0x01) = true ∧
      conditionHeld 0xC8 (Flags.ofByte 0x00) = false := by decide

/-- A budget stops at a halt, short of its cycles, R420 (60_exceptions.md). -/
theorem test_budget_stops_at_halt :
    (match runForBudget defaultCycles 100 3 (startAt 0x0000 [0x3E, 0x42, 0x76]) with
      | .done t left => decide (t.a = 0x42 ∧ t.halt = true ∧ left = -86)
      | .error _ _ => false
      | .refused _ => false
      | .running _ _ => false) = true := by decide

/-- The loop goes on over instructions whose count is 0, R420 with R7: NOP of count 0, then HLT, under a budget of 1. -/
theorem test_budget_goes_on_over_count_zero :
    (match runForBudget (fun op _ => if op = 0x00 then 0 else 7) 1 3 (startAt 0x0000 [0x00, 0x76]) with
      | .done t left => decide (t.pc = 0x0002 ∧ t.halt = true ∧ left = 6)
      | .error _ _ => false
      | .refused _ => false
      | .running _ _ => false) = true := by decide

/-- A run starts at reset with the image loaded and ends at its first state with `HALT` = 1, R425: the delivery that
follows HLT is not of the run, although `EI` armed it. -/
theorem test_run_ends_at_halt :
    (match runAfter 0 [0xFB, 0x76] [.step, .step, .deliver 1] with
      | .halted t => decide (t.pc = 0x0002 ∧ t.halt = true ∧ t.ie = true ∧ t.sp = 0)
      | .notStarted => false
      | .running _ => false
      | .faulted _ _ => false
      | .refused _ => false) = true := by decide

/-- The other ways of a run: a fault, which leaves `PC` at its byte; going on; a failed load, R424, R425, R465. -/
theorem test_run_faults_goes_on_or_never_starts :
    (match runAfter 0 [0x00, 0x08] [.step, .step, .step] with
      | .faulted t f => decide (t.pc = 0x0001 ∧ f = .unimplementedOpcode 0x08)
      | .notStarted => false
      | .running _ => false
      | .halted _ => false
      | .refused _ => false) = true ∧
      (runAfter 0 [0x00] [.step, .step]).ended = false ∧ runAfter 65535 [0x00, 0x76] [] = .notStarted := by decide

/-- Writing the byte an unlisted address reads as removes the entry. -/
theorem test_memory_canonical :
    Memory.write [(5, 0x01), (9, 0x02)] 5 0x00 = [(9, 0x02)] ∧
      Memory.write [(5, 0x01), (9, 0x02)] 7 0x03 = [(5, 0x01), (7, 0x03), (9, 0x02)] ∧
      Memory.wf [(9, 0x02), (5, 0x01)] = false ∧ Memory.wf [(5, 0x00)] = false ∧
      Memory.wf [(65536, 0x01)] = false := by decide

/-! ### Witnesses: states and operands that meet the hypotheses of the obligations

A statement with no hypothesis, or with an if and else chain only, is met by every state; those with clauses have a
witness for each. -/

/-- `StepKeepsInvariant`: a state with a listed byte, from which a storing instruction completes. -/
theorem test_witness_StepKeepsInvariant :
    (startAt 0xFFFF [0x02]).Inv ∧ ∃ t, step (startAt 0xFFFF [0x02]) = .next t := by
  refine ⟨?_, _, rfl⟩
  unfold State.Inv
  decide

/-- `HostActionsKeepInvariant`: each action and an image load complete from reset, and a tick of two half budgets ends. -/
theorem test_witness_HostActionsKeepInvariant :
    State.reset.Inv ∧ (∃ t, hostAct .step State.reset = .next t) ∧
      (∃ t, hostAct (.deliver 7) State.reset = .next t) ∧ (∃ t, hostAct (.input1 0xFF) State.reset = .next t) ∧
      (∃ t, hostAct (.input2 0xFF) State.reset = .next t) ∧ (∃ t, hostAct .takeSound State.reset = .next t) ∧
      (∃ t, loadImage 65535 [0x76] State.reset = .loaded t) ∧
      ∃ t left, tick defaultCycles 1 1 0 2 State.reset = .done t left :=
  ⟨Memory.wf_nil, ⟨_, rfl⟩, ⟨_, rfl⟩, ⟨_, rfl⟩, ⟨_, rfl⟩, ⟨_, rfl⟩, ⟨_, rfl⟩, _, _, rfl⟩

/-- `EqualBytesEqualMemory`. -/
theorem test_witness_EqualBytesEqualMemory :
    Memory.wf [(0, 0x01), (65535, 0xFF)] = true ∧
      ∀ x : Word, Memory.read [(0, 0x01), (65535, 0xFF)] x.toNat = Memory.read [(0, 0x01), (65535, 0xFF)] x.toNat :=
  ⟨by decide, fun _ => rfl⟩

/-- `StepRunsDecodedInstruction`: a running core, with operands across the top of memory, and a halted one. -/
theorem test_witness_StepRunsDecodedInstruction :
    decode [(startAt 0xFFFE [0x21, 0x34, 0x12]).readByte 0xFFFE, (startAt 0xFFFE [0x21, 0x34, 0x12]).readByte 0xFFFF,
      (startAt 0xFFFE [0x21, 0x34, 0x12]).readByte 0x0000] = .ok (.lxiH 0x1234, []) ∧
    (startAt 0xFFFE [0x21, 0x34, 0x12]).pc = 0xFFFE ∧ (startAt 0xFFFE [0x21, 0x34, 0x12]).halt = false ∧
    ({ State.reset with halt := true } : State).halt = true := by
  refine ⟨rfl, by decide, by decide, rfl⟩

/-- `DecodeOfEncode`: an instruction of each length, and an undefined byte. -/
theorem test_witness_DecodeOfEncode :
    (Instr.lda 0xFFFF).wellFormed = true ∧ (Instr.cpi 0xFF).wellFormed = true ∧ Instr.nop.wellFormed = true ∧
      (Instr.undefined 0x08).wellFormed = true := by decide

/-- `EncodeOfDecode`, and the first part of `LengthIsByOpcode` for each length. -/
theorem test_witness_EncodeOfDecode_LengthIsByOpcode :
    decode [0xFC, 0xFF, 0xFF, 0x00] = .ok (.cm 0xFFFF, [0x00]) ∧ decode [0xDB, 0xFF] = .ok (.inPort 0xFF, []) ∧
      decode [0xFF] = .ok (.rst7, []) ∧ undefinedOpcodes.contains 0xFC = false ∧
      undefinedOpcodes.contains 0xDB = false ∧ undefinedOpcodes.contains 0xFF = false :=
  ⟨rfl, rfl, rfl, by decide, by decide, by decide⟩

/-- `UndefinedOpcodesStop`, the second part of `LengthIsByOpcode`, and the undefined bytes of `NopAndDi`: the first and
the last of the twelve, and the last of the seven. -/
theorem test_witness_UndefinedOpcodesStop :
    (0x08 : Byte) ∈ undefinedOpcodes ∧ (0xFD : Byte) ∈ undefinedOpcodes ∧
      (0x38 : Byte) ∈ ([0x08, 0x10, 0x18, 0x20, 0x28, 0x30, 0x38] : List Byte) ∧
      (startAt 0xFFFF [0xFD]).halt = false ∧ (startAt 0xFFFF [0xFD]).readByte (startAt 0xFFFF [0xFD]).pc = 0xFD := by
  decide

/-- `NopAndDi`: an empty memory. -/
theorem test_witness_NopAndDi : ∀ x : Word, State.reset.readByte x = 0 := fun _ => rfl

/-- `LoadPairImmediate`, `PairStepsWrap`: a pair that is not `SP`; and a register outside the pair of each frame. -/
theorem test_witness_pairs :
    Pair.bc ≠ .sp ∧ Reg.a ∉ Pair.hl.regs ∧ Reg.b ∉ Pair.sp.regs ∧ Reg.b ∉ StackPair.psw.regs := by decide

/-- `JumpsSetPc`, `CallsPushTheReturnAddress`, `ReturnsPopThePc`: every condition holds of some flags and fails of
others. -/
theorem test_witness_conditions :
    ∀ k ∈ [Cond.nz, .z, .nc, .c, .po, .pe, .p, .m],
      (k.holds (Flags.ofByte 0x00) = true ∧ k.holds (Flags.ofByte 0xFF) = false) ∨
        (k.holds (Flags.ofByte 0x00) = false ∧ k.holds (Flags.ofByte 0xFF) = true) := by decide

/-- `InReadsThePort`: the ports of its clauses, those beside them and the ends of the range. -/
theorem test_witness_InReadsThePort :
    State.reset.portIn 0 = Config.portInUnmapped 0 ∧ State.reset.portIn 1 = State.reset.p1 ∧
      State.reset.portIn 2 = State.reset.p2 ∧
      State.reset.portIn 3 = shiftWindow State.reset.srHi State.reset.srLo State.reset.srOff ∧
      State.reset.portIn 4 = Config.portInUnmapped 0 ∧ State.reset.portIn 255 = Config.portInUnmapped 0 :=
  ⟨rfl, rfl, rfl, rfl, rfl, rfl⟩

/-- `ShiftWindowFormula`: the offset 0, and at offset 7 the bits on both sides of its clause. -/
theorem test_witness_ShiftWindowFormula :
    State.reset.srOff = 0 ∧ ({ State.reset with srOff := 7 } : State).srOff.toNat ≤ 7 ∧
      ¬ ({ State.reset with srOff := 7 } : State).srOff.toNat ≤ 6 := by decide

/-- `OutSoundAndOtherPorts`: the ports beside 2 to 5 and the ends of the range. -/
theorem test_witness_OutSoundAndOtherPorts :
    ∀ port ∈ ([0, 1, 6, 255] : List Byte), port ≠ 2 ∧ port ≠ 3 ∧ port ≠ 4 ∧ port ≠ 5 := by decide

/-- `DeliveryEntersTheVector`: the vectors 7 and 8, Armed and Disarmed. -/
theorem test_witness_DeliveryEntersTheVector :
    8 > 7 ∧ ¬ 7 > 7 ∧ State.reset.ie = false ∧ ({ State.reset with ie := true } : State).ie ≠ false := by decide

/-- `DeliveryIsRestartThenDi`, `ReturnResumesBehindTheCall`: an Armed state, at the ends of the vectors. -/
theorem test_witness_armed :
    ({ State.reset with ie := true } : State).ie = true ∧ 0 ≤ 7 ∧ 7 ≤ 7 ∧ (7 : Fin 8).val = 7 := by decide

/-- `FlagsAreWrittenAsListed`: an instruction of each clause that completes, and a delivery. -/
theorem test_witness_FlagsAreWrittenAsListed :
    writesNoFlag .cma = true ∧ (∃ t, exec .cma State.reset = .next t) ∧
      (∃ t, deliver 7 { State.reset with ie := true } = .ok t) ∧ (∃ t, exec (Form.inr .m) State.reset = .next t) ∧
      (∃ t, exec (Form.dcr .m) State.reset = .next t) ∧ (∃ t, exec (Form.dad .sp) State.reset = .next t) ∧
      ∃ t, exec .cmc State.reset = .next t :=
  ⟨rfl, ⟨_, rfl⟩, ⟨_, rfl⟩, ⟨_, rfl⟩, ⟨_, rfl⟩, ⟨_, rfl⟩, _, rfl⟩

/-- `InterruptEnableDiscipline`: EI sets `IE`, DI clears it, a delivery clears it, and ADD B is neither EI nor DI. -/
theorem test_witness_InterruptEnableDiscipline :
    (State.reset.ie = false ∧ ∃ t, exec .ei State.reset = .next t ∧ t.ie = true) ∧
      (∃ t, exec .di { State.reset with ie := true } = .next t ∧ t.ie = false) ∧
      (∃ t, deliver 0 { State.reset with ie := true } = .ok t) ∧
      Instr.addB ≠ .ei ∧ Instr.addB ≠ .di ∧ ∃ t, exec .addB State.reset = .next t :=
  ⟨⟨rfl, _, rfl, rfl⟩, ⟨_, rfl, rfl⟩, ⟨_, rfl⟩, by decide, by decide, _, rfl⟩

/-- `HaltIsSetByHltAndReadByNothing`: HLT, an instruction that is not HLT, and a delivery. -/
theorem test_witness_HaltIsSetByHltAndReadByNothing :
    (∃ t, exec .hlt State.reset = .next t ∧ t.halt = true) ∧ Instr.ret ≠ .hlt ∧
      (∃ t, exec .ret State.reset = .next t) ∧ ∃ t, deliver 7 { State.reset with ie := true } = .ok t :=
  ⟨⟨_, rfl, rfl⟩, by decide, ⟨_, rfl⟩, _, rfl⟩

/-- `UnusedFlagBitsAndInputsKeep`. -/
theorem test_witness_UnusedFlagBitsAndInputsKeep :
    Instr.cmpM ≠ .popPSW ∧ (∃ t, exec .cmpM State.reset = .next t) ∧ ∃ t, exec .popPSW State.reset = .next t :=
  ⟨by decide, ⟨_, rfl⟩, _, rfl⟩

/-- `LatchesAreWrittenByOutOnly`: each latch does change. -/
theorem test_witness_LatchesAreWrittenByOutOnly :
    (∃ t, exec (.outPort 4) { State.reset with a := 1 } = .next t ∧ t.srHi ≠ State.reset.srHi) ∧
      (∃ t, exec (.outPort 2) { State.reset with a := 1 } = .next t ∧ t.srOff ≠ State.reset.srOff) ∧
      (∃ t, exec (.outPort 3) { State.reset with a := 1 } = .next t ∧ t.snd3 ≠ State.reset.snd3) ∧
      ∃ t, exec (.outPort 5) { State.reset with a := 1 } = .next t ∧ t.snd5 ≠ State.reset.snd5 :=
  ⟨⟨_, rfl, by decide⟩, ⟨_, rfl, by decide⟩, ⟨_, rfl, by decide⟩, _, rfl, by decide⟩

/-- `OnlyStoresWriteMemory`: POP PSW reads the stack and stores nothing. -/
theorem test_witness_OnlyStoresWriteMemory :
    storesMemory .popPSW = false ∧ ∃ t, exec .popPSW State.reset = .next t := ⟨rfl, _, rfl⟩

/-- `PcAdvancesOrIsSetDirectly`: a taken branch, one that falls through, and an instruction that advances. -/
theorem test_witness_PcAdvancesOrIsSetDirectly :
    (∃ t, exec (.jnz 0xFFFF) State.reset = .next t ∧ directTarget (.jnz 0xFFFF) State.reset = some 0xFFFF) ∧
      (∃ t, exec (.jz 0xFFFF) State.reset = .next t ∧ directTarget (.jz 0xFFFF) State.reset = none) ∧
      ∃ t, exec .nop State.reset = .next t ∧ directTarget .nop State.reset = none :=
  ⟨⟨_, rfl, rfl⟩, ⟨_, rfl, rfl⟩, _, rfl, rfl⟩

/-- `LoadImageWritesAllOrNothing`: the last byte of memory, and one past it. -/
theorem test_witness_LoadImageWritesAllOrNothing :
    65535 + ([0x42] : List Byte).length ≤ 65536 ∧ ¬ 65535 + ([0x42, 0x43] : List Byte).length ≤ 65536 := by decide

/-- `RunForBudgetEnds`: the default table charges for every defined opcode; one turn more than the budgets 0, -1 and 1;
the three cases of the loop's equation. -/
theorem test_witness_RunForBudgetEnds :
    (∀ op : Byte, ∀ taken, undefinedOpcodes.contains op = false → 1 ≤ defaultCycles op taken) ∧ (0 : Int) ≤ 0 ∧
      (-1 : Int) ≤ 0 ∧ (-1 : Int).toNat < 1 ∧ (1 : Int).toNat < 2 ∧
      ((0 : Int) < 1 ∧ State.reset.halt = false ∧ ∃ t n, execute defaultCycles State.reset = .ok t n) ∧
      (∃ f, execute defaultCycles (startAt 0x0000 [0x08]) = .error f) ∧
      ¬ ((0 : Int) < 1 ∧ ({ State.reset with halt := true } : State).halt = false) :=
  ⟨by decide, by decide, by decide, by decide, by decide, ⟨by decide, rfl, _, _, rfl⟩, ⟨_, rfl⟩, by decide⟩

end Sys2Proof.Tests
end

section
/-! Lemmas over all instructions: how an instruction is run, which of them keep `F`, and that `IE` and `HALT` take no part
in any instruction but EI, DI and HLT. -/

namespace Sys2Proof.Machine

/-! ### The state an instruction leaves -/

/-- The instruction completes from every state, and `u` is the state it leaves. -/
def Leaves (i : Instr) (u : State → State) : Prop := ∀ s, exec i s = .next (u s)

theorem Leaves.eq {i : Instr} {u : State → State} (hu : Leaves i u) {s t : State} (h : exec i s = .next t) :
    t = u s :=
  Host.Outcome.next.inj (h.symm.trans (hu s))

theorem leaves_jcond (k : Cond) (addr : Word) :
    Leaves (Form.jcond k addr) fun s => if k.holds s.f then s.jump addr else s.advance 3 := by
  intro s
  rw [exec_jcond, jumpIf, apply_ite Host.Outcome.next]

theorem leaves_ccond (k : Cond) (addr : Word) :
    Leaves (Form.ccond k addr) fun s =>
      if k.holds s.f then (s.push16 (s.pc + 3)).jump addr else s.advance 3 := by
  intro s
  rw [exec_ccond, callIf, apply_ite Host.Outcome.next]

theorem leaves_rcond (k : Cond) :
    Leaves (Form.rcond k) fun s => if k.holds s.f then s.returnFrom else s.advance 1 := by
  intro s
  rw [exec_rcond, returnIf, apply_ite Host.Outcome.next]

theorem exec_undefined_ne_next (op : Byte) (s t : State) : exec (.undefined op) s ≠ .next t := nofun

/-! ### The flags (10_state.md R31) -/

@[simp] theorem Flags.afterInc_cy (f : Flags) (x : Byte) : (f.afterInc x).cy = f.cy := by
  simp [Flags.afterInc, Flags.setAC]

@[simp] theorem Flags.afterDec_cy (f : Flags) (x : Byte) : (f.afterDec x).cy = f.cy := by
  simp [Flags.afterDec, Flags.setAC]

/-- `F` is written by no instruction of the list: each of them leaves its state by operations that keep `F`. -/
theorem exec_keeps_flags (i : Instr) (s t : State) (hi : writesNoFlag i = true) (h : exec i s = .next t) :
    t.f = s.f := by
  have keeps : ∀ {u : State → State}, Leaves i u → (u s).f = s.f → t.f = s.f :=
    fun hu hf => (hu.eq h).symm ▸ hf
  cases i using instr_cases with
  | movReg x y => exact keeps (exec_movReg x y) (by simp)
  | movLoad x => exact keeps (exec_movLoad x) (by simp)
  | movStore x => exact keeps (exec_movStore x) (by simp)
  | mvi x v => exact keeps (exec_mvi x v) (by simp)
  | lxi p v => exact keeps (exec_lxi p v) (by simp)
  | inx p => exact keeps (exec_inx p) (by simp)
  | dcx p => exact keeps (exec_dcx p) (by simp)
  | jcond k v => exact keeps (leaves_jcond k v) (by split <;> simp)
  | ccond k v => exact keeps (leaves_ccond k v) (by split <;> simp)
  | rcond k => exact keeps (leaves_rcond k) (by split <;> simp)
  | push p => exact keeps (exec_push p) (by simp)
  | pop p =>
    refine keeps (exec_pop p) ?_
    cases p with
    | psw => nomatch hi
    | bc | de | hl => simp [State.setStackPair]
  | rst n => exact keeps (exec_rst n) (by simp)
  | nop | staxB | ldaxB | staxD | ldaxD | shld v | lhld v | cma | sta v | lda v | hlt | jmp v | ret | call v | xthl
  | pchl | xchg | di | sphl | ei | outPort p | inPort p => exact keeps (fun _ => rfl) (by simp)
  | add x | adc x | sub x | sbb x | ana x | xra x | ora x | cmp x =>
    cases x with
    | reg r => cases r <;> nomatch hi
    | m | imm v => nomatch hi
  | inr x | dcr x =>
    cases x with
    | reg r => cases r <;> nomatch hi
    | m => nomatch hi
  | dad p => cases p <;> nomatch hi
  | rlc | rrc | ral | rar | daa | stc | cmc | undefined op => nomatch hi

theorem exec_inr_keeps_cy (x : Loc) (s t : State) (h : exec (Form.inr x) s = .next t) : t.f.cy = s.f.cy := by
  rw [Leaves.eq (exec_inr x) h]
  simp

theorem exec_dcr_keeps_cy (x : Loc) (s t : State) (h : exec (Form.dcr x) s = .next t) : t.f.cy = s.f.cy := by
  rw [Leaves.eq (exec_dcr x) h]
  simp

theorem exec_dad_onlyCarry (p : Pair) (s t : State) (h : exec (Form.dad p) s = .next t) :
    OnlyCarryMayChange s.f t.f := by
  rw [Leaves.eq (exec_dad p) h]
  simpa using s.f.setCY_onlyCarry _

/-- The rotates, STC and CMC set `CY` and no other flag. -/
theorem exec_onlyCarry (i : Instr) (hi : i ∈ [Instr.rlc, .rrc, .ral, .rar, .stc, .cmc]) (s t : State)
    (h : exec i s = .next t) : OnlyCarryMayChange s.f t.f := by
  fin_cases hi <;> cases h <;> exact s.f.setCY_onlyCarry _

/-! ### `IE` and `HALT` pass through every operation (10_state.md R33, R34) -/

/-- `IE` and `HALT` replaced, all else as it is. -/
def State.setControl (s : State) (ie halt : Bool) : State := { s with ie := ie, halt := halt }

section
variable (s : State) (ie halt : Bool)

@[simp] theorem State.setControl_self : s.setControl s.ie s.halt = s := rfl
theorem State.setControl_own_halt : s.setControl ie s.halt = s.setIE ie := rfl
@[simp] theorem State.setControl_ie : (s.setControl ie halt).ie = ie := rfl
@[simp] theorem State.setControl_halt : (s.setControl ie halt).halt = halt := rfl

/-! What an operation reads -/

@[simp] theorem State.setControl_a : (s.setControl ie halt).a = s.a := rfl
@[simp] theorem State.setControl_f : (s.setControl ie halt).f = s.f := rfl
@[simp] theorem State.setControl_pc : (s.setControl ie halt).pc = s.pc := rfl
@[simp] theorem State.setControl_sp : (s.setControl ie halt).sp = s.sp := rfl
@[simp] theorem State.setControl_bc : (s.setControl ie halt).bc = s.bc := rfl
@[simp] theorem State.setControl_de : (s.setControl ie halt).de = s.de := rfl
@[simp] theorem State.setControl_hl : (s.setControl ie halt).hl = s.hl := rfl
@[simp] theorem State.setControl_top16 : (s.setControl ie halt).top16 = s.top16 := rfl
@[simp] theorem State.setControl_readByte (x : Word) : (s.setControl ie halt).readByte x = s.readByte x := rfl
@[simp] theorem State.setControl_readWord (x : Word) : (s.setControl ie halt).readWord x = s.readWord x := rfl
@[simp] theorem State.setControl_portIn (p : Byte) : (s.setControl ie halt).portIn p = s.portIn p := rfl
@[simp] theorem State.setControl_reg (r : Reg) : (s.setControl ie halt).reg r = s.reg r := by
  cases r <;> rfl
@[simp] theorem State.setControl_loc (x : Loc) : (s.setControl ie halt).loc x = s.loc x := by
  cases x <;> simp [State.loc]
@[simp] theorem State.setControl_src (x : Src) : (s.setControl ie halt).src x = s.src x := by
  cases x <;> simp [State.src]
@[simp] theorem State.setControl_pair (p : Pair) : (s.setControl ie halt).pair p = s.pair p := by
  cases p <;> rfl
@[simp] theorem State.setControl_stackPair (p : StackPair) :
    (s.setControl ie halt).stackPair p = s.stackPair p := by
  cases p <;> rfl

/-! What an operation writes -/

@[simp] theorem State.setControl_setFlags (f : Flags) :
    (s.setControl ie halt).setFlags f = (s.setFlags f).setControl ie halt := rfl
@[simp] theorem State.setControl_setDE (v : Word) :
    (s.setControl ie halt).setDE v = (s.setDE v).setControl ie halt := rfl
@[simp] theorem State.setControl_setHL (v : Word) :
    (s.setControl ie halt).setHL v = (s.setHL v).setControl ie halt := rfl
@[simp] theorem State.setControl_setSP (v : Word) :
    (s.setControl ie halt).setSP v = (s.setSP v).setControl ie halt := rfl
@[simp] theorem State.setControl_jump (v : Word) :
    (s.setControl ie halt).jump v = (s.jump v).setControl ie halt := rfl
@[simp] theorem State.setControl_advance (n : Nat) :
    (s.setControl ie halt).advance n = (s.advance n).setControl ie halt := rfl
@[simp] theorem State.setControl_writeByte (x : Word) (v : Byte) :
    (s.setControl ie halt).writeByte x v = (s.writeByte x v).setControl ie halt := rfl
@[simp] theorem State.setControl_writeWord (x v : Word) :
    (s.setControl ie halt).writeWord x v = (s.writeWord x v).setControl ie halt := rfl
@[simp] theorem State.setControl_push16 (v : Word) :
    (s.setControl ie halt).push16 v = (s.push16 v).setControl ie halt := rfl
@[simp] theorem State.setControl_drop16 :
    (s.setControl ie halt).drop16 = s.drop16.setControl ie halt := rfl
@[simp] theorem State.setControl_returnFrom :
    (s.setControl ie halt).returnFrom = s.returnFrom.setControl ie halt := rfl
@[simp] theorem State.setControl_enterVector (n : Nat) (v : Word) :
    (s.setControl ie halt).enterVector n v = (s.enterVector n v).setControl ie halt := rfl
@[simp] theorem State.setControl_setReg (r : Reg) (v : Byte) :
    (s.setControl ie halt).setReg r v = (s.setReg r v).setControl ie halt := by
  cases r <;> rfl
@[simp] theorem State.setControl_setLoc (x : Loc) (v : Byte) :
    (s.setControl ie halt).setLoc x v = (s.setLoc x v).setControl ie halt := by
  cases x <;> simp [State.setLoc]
@[simp] theorem State.setControl_setPair (p : Pair) (v : Word) :
    (s.setControl ie halt).setPair p v = (s.setPair p v).setControl ie halt := by
  cases p <;> rfl
@[simp] theorem State.setControl_setStackPair (p : StackPair) (v : Word) :
    (s.setControl ie halt).setStackPair p v = (s.setStackPair p v).setControl ie halt := by
  cases p <;> rfl
@[simp] theorem State.setControl_afterPortIn (p : Byte) :
    (s.setControl ie halt).afterPortIn p = (s.afterPortIn p).setControl ie halt := by
  unfold State.afterPortIn
  split_ifs <;> rfl
@[simp] theorem State.setControl_portOut (p v : Byte) :
    (s.setControl ie halt).portOut p v = (s.portOut p v).setControl ie halt := by
  unfold State.portOut
  split_ifs <;> rfl

/-- `IE` and `HALT` are neither read nor written by any instruction but EI, DI and HLT. -/
theorem exec_setControl (i : Instr) (t : State) (hei : i ≠ .ei) (hdi : i ≠ .di) (hhlt : i ≠ .hlt)
    (h : exec i s = .next t) : exec i (s.setControl ie halt) = .next (t.setControl ie halt) := by
  have passes : ∀ {u : State → State}, Leaves i u →
      u (s.setControl ie halt) = (u s).setControl ie halt →
      exec i (s.setControl ie halt) = .next (t.setControl ie halt) := by
    intro u hu hc
    rw [hu, hc, hu.eq h]
  cases i using instr_cases with
  | movReg x y => exact passes (exec_movReg x y) (by simp)
  | movLoad x => exact passes (exec_movLoad x) (by simp)
  | movStore x => exact passes (exec_movStore x) (by simp)
  | mvi x v => exact passes (exec_mvi x v) (by simp)
  | lxi p v => exact passes (exec_lxi p v) (by simp)
  | add x => exact passes (exec_add x) (by simp)
  | adc x => exact passes (exec_adc x) (by simp)
  | sub x => exact passes (exec_sub x) (by simp)
  | sbb x => exact passes (exec_sbb x) (by simp)
  | ana x => exact passes (exec_ana x) (by simp)
  | xra x => exact passes (exec_xra x) (by simp)
  | ora x => exact passes (exec_ora x) (by simp)
  | cmp x => exact passes (exec_cmp x) (by simp)
  | inr x => exact passes (exec_inr x) (by simp)
  | dcr x => exact passes (exec_dcr x) (by simp)
  | inx p => exact passes (exec_inx p) (by simp)
  | dcx p => exact passes (exec_dcx p) (by simp)
  | dad p => exact passes (exec_dad p) (by simp)
  | jcond k v => exact passes (leaves_jcond k v) (by cases hk : k.holds s.f <;> simp [hk])
  | ccond k v => exact passes (leaves_ccond k v) (by cases hk : k.holds s.f <;> simp [hk])
  | rcond k => exact passes (leaves_rcond k) (by cases hk : k.holds s.f <;> simp [hk])
  | push p => exact passes (exec_push p) (by simp)
  | pop p => exact passes (exec_pop p) (by simp)
  | rst n => exact passes (exec_rst n) (by simp)
  | nop | staxB | rlc | ldaxB | rrc | staxD | ral | ldaxD | rar | shld v | daa | lhld v | cma | sta v | stc | lda v
  | cmc | jmp v | ret | call v | outPort p | inPort p | xthl | pchl | xchg | sphl =>
    exact passes (fun _ => rfl) (by simp)
  | hlt => exact absurd rfl hhlt
  | di => exact absurd rfl hdi
  | ei => exact absurd rfl hei
  | undefined op => exact absurd h (exec_undefined_ne_next op s t)

end

/-- An instruction that is none of EI, DI and HLT leaves `IE` and `HALT`: run with both at the values they have, it
leaves those. -/
theorem exec_controlSame (i : Instr) (s t : State) (hei : i ≠ .ei) (hdi : i ≠ .di) (hhlt : i ≠ .hlt)
    (h : exec i s = .next t) : ControlSame s t := by
  have hs := exec_setControl s s.ie s.halt i t hei hdi hhlt h
  rw [State.setControl_self, h] at hs
  rw [Host.Outcome.next.inj hs]
  exact ⟨rfl, rfl⟩

/-- Every instruction but EI and DI runs the same whatever `IE` is, HLT included. -/
theorem exec_setIE (i : Instr) (s t : State) (b : Bool) (hei : i ≠ .ei) (hdi : i ≠ .di) (h : exec i s = .next t) :
    exec i (s.setIE b) = .next (t.setIE b) := by
  by_cases hhlt : i = .hlt
  · subst hhlt
    cases h
    rfl
  · have hhalt : t.halt = s.halt := (exec_controlSame i s t hei hdi hhlt h).2
    have hc := exec_setControl s b s.halt i t hei hdi hhlt h
    rwa [State.setControl_own_halt, ← hhalt, State.setControl_own_halt] at hc

theorem exec_keeps_ie (i : Instr) (s t : State) (hei : i ≠ .ei) (hdi : i ≠ .di) (h : exec i s = .next t) :
    t.ie = s.ie := by
  have hs : exec i s = .next (t.setIE s.ie) := exec_setIE i s t s.ie hei hdi h
  rw [h] at hs
  rw [Host.Outcome.next.inj hs, State.setIE_ie]

theorem exec_ei_ie (s t : State) (h : exec .ei s = .next t) : t.ie = true := by
  cases h
  rfl

theorem exec_di_ie (s t : State) (h : exec .di s = .next t) : t.ie = false := by
  cases h
  rfl

/-! ### Interrupt delivery -/

theorem deliver_keeps_flags (v : Nat) (s t : State) (h : deliver v s = .ok t) : t.f = s.f := by
  rcases deliver_cases v s with ⟨-, hd⟩ | ⟨-, -, hd⟩ | ⟨-, -, hd⟩ <;> rw [hd] at h <;> cases h
  · rfl
  · simp

/-- A delivery leaves the machine Disarmed, also where it was before (60_exceptions.md R410). -/
theorem deliver_ie (v : Nat) (s t : State) (h : deliver v s = .ok t) : t.ie = false := by
  rcases deliver_cases v s with ⟨-, hd⟩ | ⟨-, hie, hd⟩ | ⟨-, -, hd⟩ <;> rw [hd] at h <;> cases h
  · exact hie
  · simp

/-! ### The obligations -/

/-- Settles O1: every field of the reset state is written out as zero, and the empty list of cells reads zero. -/
theorem resetIsAllZero : Obligations.ResetIsAllZero := by
  refine ⟨fun r => ?_, rfl, rfl, rfl, rfl, rfl, fun _ => rfl, rfl, rfl, rfl, rfl, rfl, rfl, rfl⟩
  cases r <;> rfl

/-- Settles O53: the listed instructions and a delivery keep `F`, INR and DCR keep `CY`, the rest set `CY` alone. -/
theorem flagsAreWrittenAsListed : Obligations.FlagsAreWrittenAsListed := by
  refine ⟨exec_keeps_flags, deliver_keeps_flags, ?_, exec_dad_onlyCarry, exec_onlyCarry⟩
  rintro x s t (h | h)
  · exact exec_inr_keeps_cy x s t h
  · exact exec_dcr_keeps_cy x s t h

/-- Settles O54: EI and DI by their own meaning, all other instructions by `exec_setIE`. -/
theorem interruptEnableDiscipline : Obligations.InterruptEnableDiscipline := by
  refine ⟨fun s => ⟨_, rfl, rfl⟩, fun s => ⟨_, rfl, rfl⟩, ?_, ?_, deliver_ie, exec_setIE, rfl⟩
  · intro i s t h hs ht
    by_contra hei
    by_cases hdi : i = .di
    · subst hdi
      simp [exec_di_ie s t h] at ht
    · simp [exec_keeps_ie i s t hei hdi h, hs] at ht
  · intro i s t h hs ht
    by_contra hdi
    by_cases hei : i = .ei
    · subst hei
      simp [exec_ei_ie s t h] at ht
    · simp [exec_keeps_ie i s t hei hdi h, hs] at ht

end Sys2Proof.Machine
end

section
/-! How many bytes the decoder takes, and what the twelve undefined bytes do (30_encoding.md R92, R100). -/

namespace Sys2Proof.Machine

/-- The decoder takes exactly the bytes that the opcode byte says. -/
theorem decode_length (op : Byte) (bytes rest : List Byte) (i : Instr) (h : decode (op :: bytes) = .ok (i, rest)) :
    bytes.length + 1 = rest.length + opLength op := by
  obtain ⟨op', b1, b2, -, ⟨hl, -, -, hb⟩ | ⟨hl, -, hb⟩ | ⟨hl, hb⟩⟩ := decode_cases _ _ _ h <;>
    obtain ⟨rfl, rfl⟩ := List.cons.inj hb <;> simp [hl]

theorem opLength_eq_ite_mem (op : Byte) :
    opLength op = if op ∈ threeByteOpcodes then 3 else if op ∈ twoByteOpcodes then 2 else 1 := by
  simp only [opLength, List.contains_iff_mem]

/-- The map has the undefined instruction at each of the twelve bytes, whatever bytes follow. -/
theorem decodeOp_of_mem_undefinedOpcodes (op b1 b2 : Byte) (h : op ∈ undefinedOpcodes) :
    decodeOp op b1 b2 = .undefined op := by
  simp only [undefinedOpcodes, List.mem_cons, List.not_mem_nil, or_false] at h
  rcases h with rfl | rfl | rfl | rfl | rfl | rfl | rfl | rfl | rfl | rfl | rfl | rfl <;> rfl

theorem exec_undefined (op : Byte) (s : State) : exec (.undefined op) s = .fault (.unimplementedOpcode op) := rfl

/-- Settles O11: the length is `opLength`, whose two lists are those of R92; the twelve bytes decode to `undefined`. -/
theorem lengthIsByOpcode : Obligations.LengthIsByOpcode := by
  refine ⟨fun op bytes rest i h _ => ?_, fun op hop b1 b2 s => ?_⟩
  · exact (decode_length op bytes rest i h).trans (congrArg _ (opLength_eq_ite_mem op))
  · rw [decodeOp_of_mem_undefinedOpcodes op b1 b2 hop, exec_undefined]

end Sys2Proof.Machine
end

section
/-! Where `PC` goes: the condition codes, and for every instruction its direct target or its encoded length
(40_dispatch_flags_pairs.md R132, R153). -/

namespace Sys2Proof.Machine

/-! ### The instructions with no direct target -/

/-- The instruction has no direct target in any state, and its encoding has `n` bytes. -/
def FallsThrough (i : Instr) (n : Nat) : Prop := (∀ s, directTarget i s = none) ∧ (encode i).length = n

theorem fallsThrough_movReg (x y : Reg) : FallsThrough (Form.movReg x y) 1 := by
  cases x <;> cases y <;> exact ⟨fun _ => rfl, rfl⟩

theorem fallsThrough_movM {form : Reg → Instr} (h : form ∈ [Form.movLoad, Form.movStore]) (x : Reg) :
    FallsThrough (form x) 1 := by
  fin_cases h <;> cases x <;> exact ⟨fun _ => rfl, rfl⟩

theorem fallsThrough_mvi (x : Loc) (v : Byte) : FallsThrough (Form.mvi x v) 2 := by
  cases x with
  | reg r => cases r <;> exact ⟨fun _ => rfl, rfl⟩
  | m => exact ⟨fun _ => rfl, rfl⟩

theorem fallsThrough_lxi (p : Pair) (v : Word) : FallsThrough (Form.lxi p v) 3 := by
  cases p <;> exact ⟨fun _ => rfl, rfl⟩

theorem fallsThrough_src {form : Src → Instr}
    (h : form ∈ [Form.add, Form.adc, Form.sub, Form.sbb, Form.ana, Form.xra, Form.ora, Form.cmp]) (x : Src) :
    FallsThrough (form x) x.length := by
  cases x with
  | reg r => fin_cases h <;> cases r <;> exact ⟨fun _ => rfl, rfl⟩
  | m | imm v => fin_cases h <;> exact ⟨fun _ => rfl, rfl⟩

theorem fallsThrough_loc {form : Loc → Instr} (h : form ∈ [Form.inr, Form.dcr]) (x : Loc) :
    FallsThrough (form x) 1 := by
  cases x with
  | reg r => fin_cases h <;> cases r <;> exact ⟨fun _ => rfl, rfl⟩
  | m => fin_cases h <;> exact ⟨fun _ => rfl, rfl⟩

theorem fallsThrough_pair {form : Pair → Instr} (h : form ∈ [Form.inx, Form.dcx, Form.dad]) (p : Pair) :
    FallsThrough (form p) 1 := by
  fin_cases h <;> cases p <;> exact ⟨fun _ => rfl, rfl⟩

theorem fallsThrough_stackPair {form : StackPair → Instr} (h : form ∈ [Form.push, Form.pop]) (p : StackPair) :
    FallsThrough (form p) 1 := by
  fin_cases h <;> cases p <;> exact ⟨fun _ => rfl, rfl⟩

/-! ### `PC` after an instruction -/

/-- What R132 gives `PC` after the instruction: its direct target, or the address behind its encoding. -/
def pcAfter (i : Instr) (s : State) : Word := (directTarget i s).getD (s.pc + BitVec.ofNat 16 (encode i).length)

theorem FallsThrough.pcAfter {i : Instr} {n : Nat} (h : FallsThrough i n) (s : State) :
    pcAfter i s = s.pc + BitVec.ofNat 16 n := by
  obtain ⟨hnone, hlen⟩ := h
  rw [Machine.pcAfter, hnone, hlen, Option.getD_none]

/-- An instruction that goes to `target` if its condition holds, and has `n` bytes. -/
theorem pcAfter_of_cond {i : Instr} {k : Cond} {s : State} {target : Word} {n : Nat}
    (htarget : directTarget i s = if k.holds s.f then some target else none) (hlen : (encode i).length = n) :
    pcAfter i s = if k.holds s.f then target else s.pc + BitVec.ofNat 16 n := by
  rw [pcAfter, htarget, hlen]
  split <;> rfl

theorem pcAfter_jcond (k : Cond) (addr : Word) (s : State) :
    pcAfter (Form.jcond k addr) s = if k.holds s.f then addr else s.pc + BitVec.ofNat 16 3 :=
  pcAfter_of_cond (by cases k <;> rfl) (by cases k <;> rfl)

theorem pcAfter_ccond (k : Cond) (addr : Word) (s : State) :
    pcAfter (Form.ccond k addr) s = if k.holds s.f then addr else s.pc + BitVec.ofNat 16 3 :=
  pcAfter_of_cond (by cases k <;> rfl) (by cases k <;> rfl)

theorem pcAfter_rcond (k : Cond) (s : State) :
    pcAfter (Form.rcond k) s = if k.holds s.f then s.top16 else s.pc + BitVec.ofNat 16 1 :=
  pcAfter_of_cond (by cases k <;> rfl) (by cases k <;> rfl)

theorem pcAfter_rst (n : Fin 8) (s : State) : pcAfter (Form.rst n) s = BitVec.ofNat 16 (8 * n.val) := by
  match n with
  | 0 | 1 | 2 | 3 | 4 | 5 | 6 | 7 => rfl

/-- `PC` after every instruction that completes: the operation of its family advances `PC` by the length of its
encoding, or jumps to its direct target. -/
theorem exec_pc (i : Instr) (s t : State) (h : exec i s = .next t) : t.pc = pcAfter i s := by
  have sets : ∀ {u : State → State}, Leaves i u → (u s).pc = pcAfter i s → t.pc = pcAfter i s :=
    fun hu hpc => (hu.eq h).symm ▸ hpc
  have advances : ∀ {u : State → State} (n : Nat), FallsThrough i n → Leaves i u →
      (u s).pc = s.pc + BitVec.ofNat 16 n → t.pc = pcAfter i s :=
    fun n hn hu hpc => sets hu (hpc.trans (hn.pcAfter s).symm)
  cases i using instr_cases with
  | movReg x y => exact advances _ (fallsThrough_movReg x y) (exec_movReg x y) (by simp)
  | movLoad x => exact advances _ (fallsThrough_movM (by simp) x) (exec_movLoad x) (by simp)
  | movStore x => exact advances _ (fallsThrough_movM (by simp) x) (exec_movStore x) (by simp)
  | mvi x v => exact advances _ (fallsThrough_mvi x v) (exec_mvi x v) (by simp)
  | lxi p v => exact advances _ (fallsThrough_lxi p v) (exec_lxi p v) (by simp)
  | add x => exact advances _ (fallsThrough_src (by simp) x) (exec_add x) (by simp)
  | adc x => exact advances _ (fallsThrough_src (by simp) x) (exec_adc x) (by simp)
  | sub x => exact advances _ (fallsThrough_src (by simp) x) (exec_sub x) (by simp)
  | sbb x => exact advances _ (fallsThrough_src (by simp) x) (exec_sbb x) (by simp)
  | ana x => exact advances _ (fallsThrough_src (by simp) x) (exec_ana x) (by simp)
  | xra x => exact advances _ (fallsThrough_src (by simp) x) (exec_xra x) (by simp)
  | ora x => exact advances _ (fallsThrough_src (by simp) x) (exec_ora x) (by simp)
  | cmp x => exact advances _ (fallsThrough_src (by simp) x) (exec_cmp x) (by simp)
  | inr x => exact advances _ (fallsThrough_loc (by simp) x) (exec_inr x) (by simp)
  | dcr x => exact advances _ (fallsThrough_loc (by simp) x) (exec_dcr x) (by simp)
  | inx p => exact advances _ (fallsThrough_pair (by simp) p) (exec_inx p) (by simp)
  | dcx p => exact advances _ (fallsThrough_pair (by simp) p) (exec_dcx p) (by simp)
  | dad p => exact advances _ (fallsThrough_pair (by simp) p) (exec_dad p) (by simp)
  | push p => exact advances _ (fallsThrough_stackPair (by simp) p) (exec_push p) (by simp)
  | pop p => exact advances _ (fallsThrough_stackPair (by simp) p) (exec_pop p) (by simp)
  | nop | staxB | rlc | ldaxB | rrc | staxD | ral | ldaxD | rar | daa | cma | stc | cmc | hlt | xthl | xchg | di | sphl
  | ei => exact advances 1 ⟨fun _ => rfl, rfl⟩ (fun _ => rfl) (by simp)
  | outPort p | inPort p => exact advances 2 ⟨fun _ => rfl, rfl⟩ (fun _ => rfl) (by simp)
  | shld v | lhld v | sta v | lda v => exact advances 3 ⟨fun _ => rfl, rfl⟩ (fun _ => rfl) (by simp)
  | jcond k v => exact sets (leaves_jcond k v) (by rw [pcAfter_jcond]; split <;> simp)
  | ccond k v => exact sets (leaves_ccond k v) (by rw [pcAfter_ccond]; split <;> simp)
  | rcond k => exact sets (leaves_rcond k) (by rw [pcAfter_rcond]; split <;> simp)
  | rst n => exact sets (exec_rst n) (by rw [pcAfter_rst, State.enterVector_pc])
  | jmp v | call v | ret | pchl => exact sets (fun _ => rfl) rfl
  | undefined op => exact absurd h (exec_undefined_ne_next op s t)

/-- Settles O40: `exec_pc` is the rule for every instruction. -/
theorem pcAdvancesOrIsSetDirectly : Obligations.PcAdvancesOrIsSetDirectly := exec_pc

/-- Settles O38: each code is the code of its condition, which reads its flag. -/
theorem conditionsTestOneFlag : Obligations.ConditionsTestOneFlag :=
  fun _ => ⟨rfl, rfl, rfl, rfl, rfl, rfl, rfl, rfl⟩

end Sys2Proof.Machine
end

section
/-! Data transfer (41_data_transfer.md): what a loaded register, a loaded pair, a stored byte and a stored word leave, and
the frames of the instructions that do so. -/

namespace Sys2Proof.Machine

/-! ### Costs and frames -/

/-- The default costs of an instruction are those of the opcode byte its encoding begins with. -/
theorem CostsTaken.of_encode {i : Instr} {op : Byte} {operands : List Byte} {taken notTaken : Nat}
    (he : encode i = op :: operands) (ht : defaultCycles op true = taken) (hn : defaultCycles op false = notTaken) :
    CostsTaken i taken notTaken := by
  intro op' operands' h
  obtain ⟨rfl, -⟩ := List.cons.inj (he.symm.trans h)
  exact ⟨ht, hn⟩

section
variable {s t : State}

@[simp] theorem RestSame.refl (s : State) : RestSame s s :=
  ⟨⟨rfl, rfl⟩, ⟨rfl, rfl⟩, ⟨rfl, rfl, rfl⟩, ⟨rfl, rfl, rfl⟩, rfl⟩

@[simp] theorem restSame_advance (n : Nat) : RestSame s (t.advance n) ↔ RestSame s t := Iff.rfl
@[simp] theorem restSame_writeByte (x : Word) (v : Byte) : RestSame s (t.writeByte x v) ↔ RestSame s t := Iff.rfl
@[simp] theorem restSame_writeWord (x v : Word) : RestSame s (t.writeWord x v) ↔ RestSame s t := Iff.rfl
@[simp] theorem restSame_setDE (v : Word) : RestSame s (t.setDE v) ↔ RestSame s t := Iff.rfl
@[simp] theorem restSame_setHL (v : Word) : RestSame s (t.setHL v) ↔ RestSame s t := Iff.rfl
@[simp] theorem restSame_setReg (r : Reg) (v : Byte) : RestSame s (t.setReg r v) ↔ RestSame s t := by
  cases r <;> exact Iff.rfl
@[simp] theorem restSame_setPair (p : Pair) (v : Word) : RestSame s (t.setPair p v) ↔ RestSame s t := by
  cases p <;> exact Iff.rfl

end

/-! ### Registers and pairs -/

section
variable (s : State)

/-- A write to a pair leaves the registers outside it. -/
theorem State.setPair_reg_of_not_mem {p : Pair} {r : Reg} (hr : r ∉ p.regs) (v : Word) :
    (s.setPair p v).reg r = s.reg r := by
  cases p with
  | bc =>
    cases r with
    | b | c => exact absurd (by decide) hr
    | d | e | h | l | a => rfl
  | de =>
    cases r with
    | d | e => exact absurd (by decide) hr
    | b | c | h | l | a => rfl
  | hl =>
    cases r with
    | h | l => exact absurd (by decide) hr
    | b | c | d | e | a => rfl
  | sp => exact s.setSP_reg v r

theorem State.setDE_reg_of_not_mem {r : Reg} (hr : r ∉ [Reg.d, .e]) (v : Word) : (s.setDE v).reg r = s.reg r :=
  s.setPair_reg_of_not_mem (p := .de) hr v

theorem State.setHL_reg_of_not_mem {r : Reg} (hr : r ∉ [Reg.h, .l]) (v : Word) : (s.setHL v).reg r = s.reg r :=
  s.setPair_reg_of_not_mem (p := .hl) hr v

theorem State.setPair_sp_of_ne {p : Pair} (hp : p ≠ .sp) (v : Word) : (s.setPair p v).sp = s.sp := by
  cases p with
  | bc | de | hl => rfl
  | sp => exact absurd rfl hp

@[simp] theorem State.hiByte_de : hiByte s.de = s.d := hiByte_joinBytes s.d s.e
@[simp] theorem State.loByte_de : loByte s.de = s.e := loByte_joinBytes s.d s.e
@[simp] theorem State.hiByte_hl : hiByte s.hl = s.h := hiByte_joinBytes s.h s.l
@[simp] theorem State.loByte_hl : loByte s.hl = s.l := loByte_joinBytes s.h s.l

/-! ### A word in memory, low byte at the lower address (20_memory.md R64, R65) -/

@[simp] theorem State.hiByte_readWord (x : Word) : hiByte (s.readWord x) = s.readByte (x + 1) := hiByte_joinBytes _ _
@[simp] theorem State.loByte_readWord (x : Word) : loByte (s.readWord x) = s.readByte x := loByte_joinBytes _ _

theorem State.writeWord_readByte_low (x v : Word) : (s.writeWord x v).readByte x = loByte v := by
  have hx : x ≠ x + 1 := by bv_omega
  rw [State.writeWord_readByte, if_neg hx, if_pos rfl]

theorem State.writeWord_readByte_high (x v : Word) : (s.writeWord x v).readByte (x + 1) = hiByte v := by
  rw [State.writeWord_readByte, if_pos rfl]

theorem State.writeWord_memorySameBut (x v : Word) : MemorySameBut [x, x + 1] s (s.writeWord x v) := by
  intro y hy
  simp only [List.mem_cons, List.not_mem_nil, or_false, not_or] at hy
  obtain ⟨hlow, hhigh⟩ := hy
  rw [State.writeWord_readByte, if_neg hhigh, if_neg hlow]

end

/-! ### What a load to a register and a store of a byte do -/

/-- An instruction of `n` bytes that writes one register and goes on: MOV, MVI, LDA and LDAX. -/
theorem effect_of_setReg (r : Reg) (v : Byte) (n : Nat) {s : State} {o : Result}
    (ho : o = .next ((s.setReg r v).advance n)) :
    ∃ t, o = .next t ∧ t.reg r = v ∧ t.pc = s.pc + BitVec.ofNat 16 n ∧ RegsSameBut [r] s t ∧ t.sp = s.sp ∧
      MemorySame s t ∧ t.f = s.f ∧ RestSame s t := by
  refine ⟨_, ho, by simp, by simp, fun q hq => ?_, by simp, fun x => by simp, by simp, by simp⟩
  have hqr : q ≠ r := by simpa using hq
  simp [hqr]

/-- An instruction of `n` bytes that writes one byte of memory and goes on: MOV and MVI to `M`, STA and STAX. -/
theorem effect_of_writeByte (x : Word) (v : Byte) (n : Nat) {s : State} {o : Result}
    (ho : o = .next ((s.writeByte x v).advance n)) :
    ∃ t, o = .next t ∧ t.readByte x = v ∧ MemorySameBut [x] s t ∧ t.pc = s.pc + BitVec.ofNat 16 n ∧
      RegsSameBut [] s t ∧ t.sp = s.sp ∧ t.f = s.f ∧ RestSame s t := by
  refine ⟨_, ho, by simp, fun y hy => ?_, by simp, fun q _ => by simp, by simp, by simp, by simp⟩
  have hyx : y ≠ x := by simpa using hy
  simp [hyx]

/-! ### The words that move between `HL`, `DE` and memory -/

/-- LHLD loads `HL` with the word at its address (R170). -/
theorem exec_lhld_effect (addr : Word) (s : State) :
    ∃ t, exec (.lhld addr) s = .next t ∧ t.l = s.readByte addr ∧ t.h = s.readByte (addr + 1) ∧
      t.pc = s.pc + 3 ∧ RegsSameBut [.h, .l] s t ∧ t.sp = s.sp ∧ MemorySame s t ∧ t.f = s.f ∧ RestSame s t := by
  refine ⟨(s.setHL (s.readWord addr)).advance 3, rfl, by simp, by simp, by simp, fun r hr => ?_, by simp,
    fun x => by simp, by simp, by simp⟩
  simpa using s.setHL_reg_of_not_mem hr (s.readWord addr)

/-- SHLD stores `HL` as the word at its address (R171). -/
theorem exec_shld_effect (addr : Word) (s : State) :
    ∃ t, exec (.shld addr) s = .next t ∧ t.readByte addr = s.l ∧ t.readByte (addr + 1) = s.h ∧
      MemorySameBut [addr, addr + 1] s t ∧ t.pc = s.pc + 3 ∧ RegsSameBut [] s t ∧ t.sp = s.sp ∧ t.f = s.f ∧
      RestSame s t := by
  refine ⟨(s.writeWord addr s.hl).advance 3, rfl, ?_, ?_, fun x hx => ?_, by simp, fun r _ => by simp, by simp,
    by simp, by simp⟩
  · rw [State.advance_readByte, State.writeWord_readByte_low, State.loByte_hl]
  · rw [State.advance_readByte, State.writeWord_readByte_high, State.hiByte_hl]
  · simpa using s.writeWord_memorySameBut addr s.hl x hx

/-- XCHG loads each of `HL` and `DE` with the entry value of the other (R172). -/
theorem exec_xchg_effect (s : State) :
    ∃ t, exec .xchg s = .next t ∧ t.h = s.d ∧ t.l = s.e ∧ t.d = s.h ∧ t.e = s.l ∧ t.pc = s.pc + 1 ∧
      RegsSameBut [.d, .e, .h, .l] s t ∧ t.sp = s.sp ∧ MemorySame s t ∧ t.f = s.f ∧ RestSame s t := by
  refine ⟨((s.setHL s.de).setDE s.hl).advance 1, rfl, by simp, by simp, by simp, by simp, by simp, fun r hr => ?_,
    by simp, fun x => by simp, by simp, by simp⟩
  obtain ⟨hde, hhl⟩ : r ∉ [Reg.d, .e] ∧ r ∉ [Reg.h, .l] := by simpa [and_assoc] using hr
  rw [State.advance_reg, State.setDE_reg_of_not_mem _ hde, State.setHL_reg_of_not_mem _ hhl]

/-- XTHL stores `HL` at `SP` and loads `HL` with the word that was there (R173). -/
theorem exec_xthl_effect (s : State) :
    ∃ t, exec .xthl s = .next t ∧ t.l = s.readByte s.sp ∧ t.h = s.readByte (s.sp + 1) ∧
      t.readByte s.sp = s.l ∧ t.readByte (s.sp + 1) = s.h ∧ MemorySameBut [s.sp, s.sp + 1] s t ∧
      t.pc = s.pc + 1 ∧ RegsSameBut [.h, .l] s t ∧ t.sp = s.sp ∧ t.f = s.f ∧ RestSame s t := by
  refine ⟨((s.writeWord s.sp s.hl).setHL s.top16).advance 1, rfl, ?_, ?_, ?_, ?_, fun x hx => ?_, by simp,
    fun r hr => ?_, by simp, by simp, by simp⟩
  · simp [State.top16]
  · simp [State.top16]
  · rw [State.advance_readByte, State.setHL_readByte, State.writeWord_readByte_low, State.loByte_hl]
  · rw [State.advance_readByte, State.setHL_readByte, State.writeWord_readByte_high, State.hiByte_hl]
  · simpa using s.writeWord_memorySameBut s.sp s.hl x hx
  · simpa using (s.writeWord s.sp s.hl).setHL_reg_of_not_mem hr s.top16

end Sys2Proof.Machine
end

section
/-! The obligations of 41_data_transfer.md. They stand outside `Machine`, where `loadPairImmediate` is the model's own. -/

namespace Sys2Proof

open Machine

/-- Settles O14: every form writes the source register's entry value to the destination register. -/
theorem movRegisterCopies : Obligations.MovRegisterCopies := by
  refine ⟨fun _ _ => rfl, fun x y => ⟨?_, ?_, fun s => effect_of_setReg x (s.reg y) 1 (exec_movReg x y s)⟩⟩
  · cases x <;> cases y <;> rfl
  · cases x <;> cases y <;> exact .of_encode rfl rfl rfl

/-- Settles O15: every form writes the byte at `HL` to its register. -/
theorem movFromMemoryLoads : Obligations.MovFromMemoryLoads := by
  refine fun x => ⟨?_, ?_, fun s => effect_of_setReg x (s.readByte s.hl) 1 (exec_movLoad x s)⟩
  · cases x <;> rfl
  · cases x <;> exact .of_encode rfl rfl rfl

/-- Settles O16: every form writes its register to the byte at `HL`. -/
theorem movToMemoryStores : Obligations.MovToMemoryStores := by
  refine fun r => ⟨?_, ?_, fun s => effect_of_writeByte s.hl (s.reg r) 1 (exec_movStore r s)⟩
  · cases r <;> rfl
  · cases r <;> exact .of_encode rfl rfl rfl

/-- Settles O17: the register forms write a register, MVI M the byte at `HL`. -/
theorem moveImmediate : Obligations.MoveImmediate := by
  refine ⟨fun x v => ⟨?_, ?_, fun s => effect_of_setReg x v 2 (exec_mvi (.reg x) v s)⟩,
    fun v => ⟨rfl, .of_encode rfl rfl rfl, fun s => effect_of_writeByte s.hl v 2 (exec_mvi .m v s)⟩⟩
  · cases x <;> rfl
  · cases x <;> exact .of_encode rfl rfl rfl

/-- Settles O18: every form writes its operand to its pair. -/
theorem loadPairImmediate : Obligations.LoadPairImmediate := by
  refine fun p v => ⟨?_, ?_, fun s => ⟨_, exec_lxi p v s, ?_, fun hp => ?_, fun r hr => ?_, by simp, fun x => by simp,
    by simp, by simp⟩⟩
  · cases p <;> rfl
  · cases p <;> exact .of_encode rfl rfl rfl
  · cases p <;> simp [State.setPair]
  · simpa using s.setPair_sp_of_ne hp v
  · simpa using s.setPair_reg_of_not_mem hr v

/-- Settles O19: LDA and LDAX write `A` with the byte at their address. -/
theorem loadAccumulator : Obligations.LoadAccumulator := by
  refine ⟨fun addr => ⟨rfl, .of_encode rfl rfl rfl⟩, fun b1 b2 => ⟨rfl, rfl⟩, rfl, .of_encode rfl rfl rfl, rfl,
    .of_encode rfl rfl rfl, fun s => ⟨fun addr => ?_, ?_, ?_⟩⟩
  · exact effect_of_setReg .a (s.readByte addr) 3 rfl
  · exact effect_of_setReg .a (s.readByte s.bc) 1 rfl
  · exact effect_of_setReg .a (s.readByte s.de) 1 rfl

/-- Settles O20: STA and STAX write the byte at their address with `A`. -/
theorem storeAccumulator : Obligations.StoreAccumulator := by
  refine ⟨fun addr => ⟨rfl, .of_encode rfl rfl rfl⟩, fun b1 b2 => ⟨rfl, rfl⟩, rfl, .of_encode rfl rfl rfl, rfl,
    .of_encode rfl rfl rfl, fun s => ⟨fun addr => ?_, ?_, ?_⟩⟩
  · exact effect_of_writeByte addr s.a 3 rfl
  · exact effect_of_writeByte s.bc s.a 1 rfl
  · exact effect_of_writeByte s.de s.a 1 rfl

/-- Settles O21: by the effects of LHLD and SHLD. -/
theorem loadAndStoreHL : Obligations.LoadAndStoreHL := fun addr =>
  ⟨rfl, .of_encode rfl rfl rfl, rfl, .of_encode rfl rfl rfl, fun s => ⟨exec_lhld_effect addr s, exec_shld_effect addr s⟩⟩

/-- Settles O22: by the effects of XCHG and XTHL. -/
theorem exchangesSwap : Obligations.ExchangesSwap :=
  ⟨rfl, .of_encode rfl rfl rfl, rfl, .of_encode rfl rfl rfl, fun s => ⟨exec_xchg_effect s, exec_xthl_effect s⟩⟩

end Sys2Proof
end

section
/-! Arithmetic (42_arithmetic.md): the integers behind the 8-bit and 16-bit results, what INR and DCR leave in `F`, and the
frames of the instructions that write a register or a byte together with `F`, or a pair. -/

namespace Sys2Proof.Machine

/-! ### Results as integers -/

theorem toNat_addSum (x y : Byte) (cin : Bool) :
    (BitVec.ofNat 8 (addSum x y cin)).toNat = (x.toNat + y.toNat + cin.toNat) % 256 :=
  BitVec.toNat_ofNat _ 8

theorem toNat_subResult (x y : Byte) (bin : Bool) :
    ((subResult x y bin).toNat : Int) = ((x.toNat : Int) - y.toNat - bin.toNat) % 256 := by
  have hbin : bin.toNat ≤ 1 := bin.toNat_le
  simp only [subResult, BitVec.toNat_sub, BitVec.toNat_ofNat]
  omega

/-- Subtracting one is adding `2 ^ w - 1`, which is how R219 and R222 wrap below zero. -/
theorem toNat_sub_one {w : Nat} (hw : 0 < w) (x : BitVec w) : (x - 1).toNat = (x.toNat + (2 ^ w - 1)) % 2 ^ w := by
  simp [BitVec.toNat_sub, Nat.one_mod_two_pow hw, Nat.add_comm]

/-! ### The flags of INR and DCR -/

/-- INR leaves in `AC` whether the low nibble was 15, and keeps `CY` (R217). -/
theorem Flags.afterInc_spec (f : Flags) (x : Byte) :
    ((f.afterInc x).ac = true ↔ x.toNat % 16 = 15) ∧ ZspOf (f.afterInc x) (x + 1) ∧ (f.afterInc x).cy = f.cy ∧
      UnusedSame f (f.afterInc x) := by
  refine ⟨?_, Flags.setZSP_zspOf _ _, f.afterInc_cy x, rfl, rfl, rfl⟩
  have hac : (f.afterInc x).ac = decide (x.toNat % 16 + 1 > 15) := rfl
  rw [hac, decide_eq_true_iff]
  omega

/-- DCR leaves in `AC` the bit of a borrow out of a zero low nibble, and keeps `CY` (R219). -/
theorem Flags.afterDec_spec (f : Flags) (x : Byte) :
    (f.afterDec x).ac = auxOfBorrow Config.subAux (decide (x.toNat % 16 = 0)) ∧ ZspOf (f.afterDec x) (x - 1) ∧
      (f.afterDec x).cy = f.cy ∧ UnusedSame f (f.afterDec x) := by
  refine ⟨?_, Flags.setZSP_zspOf _ _, f.afterDec_cy x, rfl, rfl, rfl⟩
  have hac : (f.afterDec x).ac = auxOfBorrow Config.subAux (decide (x.toNat % 16 < 1)) := rfl
  rw [hac, decide_eq_decide.mpr Nat.lt_one_iff]

/-! ### Additions to `A` and subtractions from `A` -/

theorem addsToA_of_afterAdd {s t : State} {v : Byte} {cin : Bool}
    (ha : t.a = BitVec.ofNat 8 (addSum s.a v cin)) (hf : t.f = s.f.afterAdd s.a v cin) :
    AddsToA s t v cin.toNat := by
  obtain ⟨hcy, hac, hzsp, hunused⟩ := s.f.afterAdd_spec s.a v cin
  rw [AddsToA, ha, hf]
  exact ⟨toNat_addSum s.a v cin, hcy, hac, hzsp, hunused⟩

/-- Stated of the result and not of `A`, so that it serves CMP too, which writes no result (R201). -/
theorem subtractsFromA_of_afterSub {s t : State} {v : Byte} {bin : Bool} (hf : t.f = s.f.afterSub s.a v bin) :
    SubtractsFromA s t v bin.toNat (subResult s.a v bin) := by
  obtain ⟨hcy, hac, hzsp, hunused⟩ := s.f.afterSub_spec s.a v bin
  rw [SubtractsFromA, hf]
  exact ⟨toNat_subResult s.a v bin, hcy, hac, hzsp, hunused⟩

/-! ### The bytes and costs of the two-operand forms -/

theorem encode_addSub (x : Src) :
    encode (Form.add x) = aluBytes 0b000 x ∧ encode (Form.adc x) = aluBytes 0b001 x ∧
      encode (Form.sub x) = aluBytes 0b010 x ∧ encode (Form.sbb x) = aluBytes 0b011 x := by
  cases x with
  | reg r => cases r <;> exact ⟨rfl, rfl, rfl, rfl⟩
  | m | imm v => exact ⟨rfl, rfl, rfl, rfl⟩

/-- The costs depend on the operand form alone, whatever the ALU code (R202). -/
theorem costs_of_aluBytes {i : Instr} {ooo : BitVec 3} {x : Src} (he : encode i = aluBytes ooo x) :
    Costs i x.cycles := by
  have hreg : ∀ (k : BitVec 3) (r : Reg) (b : Bool), defaultCycles (0b10#2 ++ k ++ r.code) b = 4 := by
    intro k r b
    cases r <;> revert k b <;> decide
  have hm : ∀ (k : BitVec 3) (b : Bool), defaultCycles (0b10#2 ++ k ++ 0b110#3) b = 7 := by decide
  have himm : ∀ (k : BitVec 3) (b : Bool), defaultCycles (0b11#2 ++ k ++ 0b110#3) b = 7 := by decide
  cases x with
  | reg r => exact .of_encode he (hreg ooo r true) (hreg ooo r false)
  | m => exact .of_encode he (hm ooo true) (hm ooo false)
  | imm v => exact .of_encode he (himm ooo true) (himm ooo false)

/-! ### Frames -/

@[simp] theorem restSame_setFlags {s t : State} (f : Flags) : RestSame s (t.setFlags f) ↔ RestSame s t := Iff.rfl

@[simp] theorem State.advance_pair (s : State) (n : Nat) (p : Pair) : (s.advance n).pair p = s.pair p := by
  cases p <;> rfl

section
variable {s : State} {o : Result}

/-- An instruction of `n` bytes that writes one register and `F`, and goes on. For a given register the order of the two
writes makes no difference, by `rfl`. -/
theorem effect_of_setReg_setFlags (r : Reg) (v : Byte) (f : Flags) (n : Nat)
    (ho : o = .next (((s.setReg r v).setFlags f).advance n)) :
    ∃ t, o = .next t ∧ t.reg r = v ∧ t.f = f ∧ t.pc = s.pc + BitVec.ofNat 16 n ∧ RegsSameBut [r] s t ∧
      t.sp = s.sp ∧ MemorySame s t ∧ RestSame s t := by
  refine ⟨_, ho, by simp, by simp, by simp, fun q hq => ?_, by simp, fun x => by simp, by simp⟩
  have hqr : q ≠ r := by simpa using hq
  simp [hqr]

/-- An instruction of `n` bytes that writes one byte of memory and `F`, and goes on. -/
theorem effect_of_writeByte_setFlags (x : Word) (v : Byte) (f : Flags) (n : Nat)
    (ho : o = .next (((s.writeByte x v).setFlags f).advance n)) :
    ∃ t, o = .next t ∧ t.readByte x = v ∧ t.f = f ∧ t.pc = s.pc + BitVec.ofNat 16 n ∧ RegsSameBut [] s t ∧
      t.sp = s.sp ∧ MemorySameBut [x] s t ∧ RestSame s t := by
  refine ⟨_, ho, by simp, by simp, by simp, fun q _ => by simp, by simp, fun y hy => ?_, by simp⟩
  have hyx : y ≠ x := by simpa using hy
  simp [hyx]

/-- An instruction of `n` bytes that writes one pair and goes on. -/
theorem effect_of_setPair (p : Pair) (v : Word) (n : Nat) (ho : o = .next ((s.setPair p v).advance n)) :
    ∃ t, o = .next t ∧ t.pair p = v ∧ t.pc = s.pc + BitVec.ofNat 16 n ∧ RegsSameBut p.regs s t ∧
      (p ≠ .sp → t.sp = s.sp) ∧ MemorySame s t ∧ t.f = s.f ∧ RestSame s t := by
  refine ⟨_, ho, by simp, by simp, fun r hr => ?_, fun hp => ?_, fun x => by simp, by simp, by simp⟩
  · simpa using s.setPair_reg_of_not_mem hr v
  · simpa using s.setPair_sp_of_ne hp v

end

/-- `AddCore` (R200) and its frame. -/
theorem addCore_effect (x : Src) (cin : Bool) (s : State) :
    ∃ t, addCore x cin s = .next t ∧ AddsToA s t (s.src x) cin.toNat ∧ t.pc = s.pc + BitVec.ofNat 16 x.length ∧
      RegsSameBut [.a] s t ∧ t.sp = s.sp ∧ MemorySame s t ∧ RestSame s t := by
  obtain ⟨t, ht, ha, hf, frame⟩ := effect_of_setReg_setFlags .a (BitVec.ofNat 8 (addSum s.a (s.src x) cin))
    (s.f.afterAdd s.a (s.src x) cin) x.length (rfl : addCore x cin s = _)
  exact ⟨t, ht, addsToA_of_afterAdd ha hf, frame⟩

/-- `SubCore` with its result written (R201), and its frame. -/
theorem subCore_effect (x : Src) (bin : Bool) (s : State) :
    ∃ t, subCore x bin s = .next t ∧ SubtractsFromA s t (s.src x) bin.toNat t.a ∧
      t.pc = s.pc + BitVec.ofNat 16 x.length ∧ RegsSameBut [.a] s t ∧ t.sp = s.sp ∧ MemorySame s t ∧ RestSame s t := by
  obtain ⟨t, ht, ha, hf, frame⟩ := effect_of_setReg_setFlags .a (subResult s.a (s.src x) bin)
    (s.f.afterSub s.a (s.src x) bin) x.length (rfl : subCore x bin s = _)
  have hresult : subResult s.a (s.src x) bin = t.a := ha.symm
  exact ⟨t, ht, hresult ▸ subtractsFromA_of_afterSub hf, frame⟩

end Sys2Proof.Machine
end

section
/-! Six obligations of 42_arithmetic.md, all but DAA's. -/

namespace Sys2Proof

open Machine

/-- Settles O23: both run `AddCore`, ADD with no carry in, ADC with the carry on entry. -/
theorem addInstructionsAdd : Obligations.AddInstructionsAdd := by
  intro x
  obtain ⟨hadd, hadc, -, -⟩ := encode_addSub x
  refine ⟨hadd, costs_of_aluBytes hadd, hadc, costs_of_aluBytes hadc, fun s => ⟨?_, ?_⟩⟩
  · rw [exec_add]
    exact addCore_effect x false s
  · rw [exec_adc]
    exact addCore_effect x s.f.cy s

/-- Settles O24: SUB and SBB run `SubCore`, and CMP leaves the flags of SUB. -/
theorem subtractInstructionsSubtract : Obligations.SubtractInstructionsSubtract := by
  intro x
  obtain ⟨-, -, hsub, hsbb⟩ := encode_addSub x
  refine ⟨hsub, costs_of_aluBytes hsub, hsbb, costs_of_aluBytes hsbb, fun s => ⟨?_, ?_⟩, fun s => ?_⟩
  · rw [exec_sub]
    exact subCore_effect x false s
  · rw [exec_sbb]
    exact subCore_effect x s.f.cy s
  · exact ⟨_, exec_cmp x s, by simp, _, subtractsFromA_of_afterSub (bin := false) (by simp)⟩

/-- Settles O25: the register forms and INR M leave one result and the same flags in two frames. -/
theorem incrementAddsOne : Obligations.IncrementAddsOne := by
  refine ⟨fun r => ⟨?_, ?_, fun s => ?_⟩, rfl, .of_encode rfl rfl rfl, fun s => ?_⟩
  · cases r <;> rfl
  · cases r <;> exact .of_encode rfl rfl rfl
  · obtain ⟨t, ht, hr, hf, frame⟩ := effect_of_setReg_setFlags r _ _ 1 (exec_inr (.reg r) s)
    obtain ⟨hac, hzsp, hcy, hunused⟩ := s.f.afterInc_spec (s.reg r)
    refine ⟨t, ht, ?_⟩
    rw [hr, hf]
    exact ⟨BitVec.toNat_add (s.reg r) 1, hac, hzsp, hcy, hunused, frame⟩
  · obtain ⟨t, ht, hm, hf, frame⟩ := effect_of_writeByte_setFlags (joinBytes s.h s.l) _ _ 1 (exec_inr .m s)
    obtain ⟨hac, hzsp, hcy, hunused⟩ := s.f.afterInc_spec (s.readByte s.hl)
    refine ⟨t, ht, ?_⟩
    rw [hm, hf]
    exact ⟨BitVec.toNat_add (s.readByte s.hl) 1, hac, hzsp, hcy, hunused, frame⟩

/-- Settles O26: the register forms and DCR M leave one result and the same flags in two frames. -/
theorem decrementSubtractsOne : Obligations.DecrementSubtractsOne := by
  refine ⟨fun r => ⟨?_, ?_, fun s => ?_⟩, rfl, .of_encode rfl rfl rfl, fun s => ?_⟩
  · cases r <;> rfl
  · cases r <;> exact .of_encode rfl rfl rfl
  · obtain ⟨t, ht, hr, hf, frame⟩ := effect_of_setReg_setFlags r _ _ 1 (exec_dcr (.reg r) s)
    obtain ⟨hac, hzsp, hcy, hunused⟩ := s.f.afterDec_spec (s.reg r)
    refine ⟨t, ht, ?_⟩
    rw [hr, hf]
    exact ⟨toNat_sub_one (by decide) (s.reg r), hac, hzsp, hcy, hunused, frame⟩
  · obtain ⟨t, ht, hm, hf, frame⟩ := effect_of_writeByte_setFlags (joinBytes s.h s.l) _ _ 1 (exec_dcr .m s)
    obtain ⟨hac, hzsp, hcy, hunused⟩ := s.f.afterDec_spec (s.readByte s.hl)
    refine ⟨t, ht, ?_⟩
    rw [hm, hf]
    exact ⟨toNat_sub_one (by decide) (s.readByte s.hl), hac, hzsp, hcy, hunused, frame⟩

/-- Settles O27: both write their pair, and 16-bit words wrap as the integers modulo 65536 do. -/
theorem pairStepsWrap : Obligations.PairStepsWrap := by
  refine fun p => ⟨?_, ?_, ?_, ?_, fun s => ⟨?_, ?_⟩⟩
  · cases p <;> rfl
  · cases p <;> exact .of_encode rfl rfl rfl
  · cases p <;> rfl
  · cases p <;> exact .of_encode rfl rfl rfl
  · obtain ⟨t, ht, hp, frame⟩ := effect_of_setPair p (s.pair p + 1) 1 (exec_inx p s)
    exact ⟨t, ht, hp ▸ BitVec.toNat_add (s.pair p) 1, frame⟩
  · obtain ⟨t, ht, hp, frame⟩ := effect_of_setPair p (s.pair p - 1) 1 (exec_dcx p s)
    exact ⟨t, ht, hp ▸ toNat_sub_one (by decide) (s.pair p), frame⟩

/-- Settles O28: `HL` is the integer sum modulo 65536, and `CY` its bit 16. -/
theorem dadAddsPairs : Obligations.DadAddsPairs := by
  refine fun p => ⟨?_, ?_, fun s => ⟨_, exec_dad p s, ?_, decide_eq_true_iff, s.f.setCY_onlyCarry _, by simp,
    fun r hr => ?_, by simp, fun x => by simp, by simp⟩⟩
  · cases p <;> rfl
  · cases p <;> exact .of_encode rfl rfl rfl
  · simp [dadSum, State.hl]
  · rw [State.advance_reg, State.setHL_reg_of_not_mem _ hr, State.setFlags_reg]

end Sys2Proof
end

section
/-! Rotates (44_rotate.md): the integers behind the two shifts and the bits they rotate out, and the frame the four
instructions share. -/

namespace Sys2Proof.Machine

/-! ### Shifts and the bits rotated out, as integers -/

/-- `BitVec.toNat_append` as a sum, which `omega` reads. -/
theorem toNat_append_eq_add {m n : Nat} (x : BitVec m) (y : BitVec n) :
    (x ++ y).toNat = x.toNat * 2 ^ n + y.toNat := by
  rw [BitVec.toNat_append, ← Nat.shiftLeft_add_eq_or_of_lt y.isLt, Nat.shiftLeft_eq]

theorem toNat_shiftLeftIn (x : Byte) (c : Bool) : (shiftLeftIn x c).toNat = (2 * x.toNat + c.toNat) % 256 := by
  have hc : c.toNat < 2 := c.toNat_lt
  rw [shiftLeftIn, toNat_append_eq_add, BitVec.extractLsb'_toNat, BitVec.toNat_ofBool, Nat.shiftRight_zero]
  omega

theorem toNat_shiftRightIn (x : Byte) (c : Bool) : (shiftRightIn x c).toNat = x.toNat / 2 + 128 * c.toNat := by
  rw [shiftRightIn, toNat_append_eq_add, BitVec.extractLsb'_toNat, BitVec.toNat_ofBool, Nat.shiftRight_eq_div_pow]
  omega

theorem toNat_getLsbD_seven (x : Byte) : (x.getLsbD 7).toNat = x.toNat / 128 := by
  rw [BitVec.getLsbD, Nat.toNat_testBit]
  omega

theorem toNat_getLsbD_zero (x : Byte) : (x.getLsbD 0).toNat = x.toNat % 2 := by
  rw [BitVec.getLsbD, Nat.toNat_testBit, Nat.pow_zero, Nat.div_one]

theorem getLsbD_zero_iff (x : Byte) : x.getLsbD 0 = true ↔ x.toNat % 2 = 1 :=
  Nat.mod_two_eq_one_iff_testBit_zero.symm

/-! ### The frame -/

/-- A rotate writes `A` and `CY` and nothing else but `PC`. -/
theorem rotateTo_effect (v : Byte) (out : Bool) (s : State) :
    ∃ t, rotateTo v out s = .next t ∧ t.a = v ∧ t.f.cy = out ∧ OnlyCarryMayChange s.f t.f ∧ t.pc = s.pc + 1 ∧
      RegsSameBut [.a] s t ∧ t.sp = s.sp ∧ MemorySame s t ∧ RestSame s t := by
  obtain ⟨t, ht, ha, hf, frame⟩ := effect_of_setReg_setFlags .a v (s.f.setCY out) 1 (rfl : rotateTo v out s = _)
  refine ⟨t, ht, ha, ?_⟩
  rw [hf]
  exact ⟨rfl, s.f.setCY_onlyCarry out, frame⟩

/-- The left rotates, RLC with bit 7 coming in and RAL with `CY`: bit 7 goes out (R290, R292). -/
theorem rotateLeft_effect (c : Bool) (s : State) :
    ∃ t, rotateTo (shiftLeftIn s.a c) (s.a.getLsbD 7) s = .next t ∧
      t.a.toNat = (2 * s.a.toNat + c.toNat) % 256 ∧ (t.f.cy = true ↔ 128 ≤ s.a.toNat) ∧
      OnlyCarryMayChange s.f t.f ∧ t.pc = s.pc + 1 ∧ RegsSameBut [.a] s t ∧ t.sp = s.sp ∧ MemorySame s t ∧
      RestSame s t := by
  obtain ⟨t, ht, ha, hcy, frame⟩ := rotateTo_effect (shiftLeftIn s.a c) (s.a.getLsbD 7) s
  exact ⟨t, ht, ha ▸ toNat_shiftLeftIn s.a c, hcy ▸ sign_iff s.a, frame⟩

/-- The right rotates, RRC with bit 0 coming in and RAR with `CY`: bit 0 goes out (R291, R293). -/
theorem rotateRight_effect (c : Bool) (s : State) :
    ∃ t, rotateTo (shiftRightIn s.a c) (s.a.getLsbD 0) s = .next t ∧
      t.a.toNat = s.a.toNat / 2 + 128 * c.toNat ∧ (t.f.cy = true ↔ s.a.toNat % 2 = 1) ∧
      OnlyCarryMayChange s.f t.f ∧ t.pc = s.pc + 1 ∧ RegsSameBut [.a] s t ∧ t.sp = s.sp ∧ MemorySame s t ∧
      RestSame s t := by
  obtain ⟨t, ht, ha, hcy, frame⟩ := rotateTo_effect (shiftRightIn s.a c) (s.a.getLsbD 0) s
  exact ⟨t, ht, ha ▸ toNat_shiftRightIn s.a c, hcy ▸ getLsbD_zero_iff s.a, frame⟩

end Sys2Proof.Machine
end

section
/-! The obligation of 44_rotate.md. -/

namespace Sys2Proof

open Machine

/-- Settles O34: each runs the left or the right rotate, RLC and RRC with the bit that goes out coming in, RAL and RAR
with `CY`. -/
theorem rotatesWriteOnlyCarry : Obligations.RotatesWriteOnlyCarry := by
  refine ⟨rfl, .of_encode rfl rfl rfl, rfl, .of_encode rfl rfl rfl, rfl, .of_encode rfl rfl rfl, rfl,
    .of_encode rfl rfl rfl, fun s => ⟨?rlc, ?rrc, ?ral, ?rar⟩⟩
  case rlc =>
    rw [← toNat_getLsbD_seven]
    exact rotateLeft_effect (s.a.getLsbD 7) s
  case rrc =>
    obtain ⟨t, ht, ha, frame⟩ := rotateRight_effect (s.a.getLsbD 0) s
    exact ⟨t, ht, toNat_getLsbD_zero s.a ▸ ha, frame⟩
  case ral => exact rotateLeft_effect s.f.cy s
  case rar => exact rotateRight_effect s.f.cy s

end Sys2Proof
end

section
/-! Branches (45_branch.md): the effect of a jump and of a call, whatever the address they go to. -/

namespace Sys2Proof.Machine

/-! ### Frames -/

section
variable {s t : State}

@[simp] theorem restSame_jump (v : Word) : RestSame s (t.jump v) ↔ RestSame s t := Iff.rfl
@[simp] theorem restSame_push16 (v : Word) : RestSame s (t.push16 v) ↔ RestSame s t := Iff.rfl

end

/-! ### A pushed word, high byte at the higher address (40_dispatch_flags_pairs.md R150) -/

section
variable (s : State) (v : Word)

theorem State.push16_readByte_low : (s.push16 v).readByte (s.sp - 2) = loByte v := by
  rw [State.push16_readByte, if_pos rfl]

theorem State.push16_readByte_high : (s.push16 v).readByte (s.sp - 1) = hiByte v := by
  have hne : s.sp - 1 ≠ s.sp - 2 := by bv_omega
  rw [State.push16_readByte, if_neg hne, if_pos rfl]

theorem State.push16_memorySameBut : MemorySameBut [s.sp - 1, s.sp - 2] s (s.push16 v) := by
  intro y hy
  simp only [List.mem_cons, List.not_mem_nil, or_false, not_or] at hy
  obtain ⟨hhigh, hlow⟩ := hy
  rw [State.push16_readByte, if_neg hlow, if_neg hhigh]

end

/-! ### Jumps and calls -/

section
variable {s : State} {o : Result}

/-- An instruction that sets `PC` and writes nothing else: JMP, Jcond and PCHL, and a branch not taken. -/
theorem effect_of_jump (target : Word) (ho : o = .next (s.jump target)) :
    ∃ t, o = .next t ∧ t.pc = target ∧ RegsSameBut [] s t ∧ t.f = s.f ∧ t.sp = s.sp ∧ MemorySame s t ∧
      RestSame s t :=
  ⟨_, ho, by simp, fun r _ => by simp, by simp, by simp, fun x => by simp, by simp⟩

/-- An instruction that pushes a return address and sets `PC`: CALL and a Ccond taken. -/
theorem effect_of_push16_jump (returnAddr target : Word) (ho : o = .next ((s.push16 returnAddr).jump target)) :
    ∃ t, o = .next t ∧ t.pc = target ∧ t.sp = s.sp - 2 ∧ t.readByte (s.sp - 1) = hiByte returnAddr ∧
      t.readByte (s.sp - 2) = loByte returnAddr ∧ MemorySameBut [s.sp - 1, s.sp - 2] s t ∧ RegsSameBut [] s t ∧
      t.f = s.f ∧ RestSame s t := by
  refine ⟨_, ho, by simp, by simp, ?_, ?_, fun x hx => ?_, fun r _ => by simp, by simp, by simp⟩
  · rw [State.jump_readByte, State.push16_readByte_high]
  · rw [State.jump_readByte, State.push16_readByte_low]
  · rw [State.jump_readByte, s.push16_memorySameBut returnAddr x hx]

end

/-- Taken or not, Jcond jumps: to its operand, or to the address behind it. -/
theorem jumpIf_eq (k : Cond) (addr : Word) (s : State) :
    jumpIf k addr s = .next (s.jump (if k.holds s.f then addr else s.pc + 3)) := by
  unfold jumpIf
  split <;> rfl

theorem callIf_of_holds {k : Cond} {s : State} (hk : k.holds s.f = true) (addr : Word) :
    callIf k addr s = .next ((s.push16 (s.pc + 3)).jump addr) := if_pos hk

theorem callIf_of_not_holds {k : Cond} {s : State} (hk : ¬ k.holds s.f = true) (addr : Word) :
    callIf k addr s = .next (s.jump (s.pc + 3)) := if_neg hk

end Sys2Proof.Machine
end

section
/-! The jumps and calls of 45_branch.md. -/

namespace Sys2Proof

open Machine

/-- Settles O35: all of them jump and do nothing else; a Jcond not taken jumps to the next instruction. -/
theorem jumpsSetPc : Obligations.JumpsSetPc := by
  refine ⟨fun addr => ⟨rfl, .of_encode rfl rfl rfl, fun s => effect_of_jump addr rfl⟩,
    fun k addr => ⟨?_, ?_, fun s => ?_⟩, rfl, .of_encode rfl rfl rfl, fun s => effect_of_jump (joinBytes s.h s.l) rfl⟩
  · cases k <;> rfl
  · cases k <;> exact .of_encode rfl rfl rfl
  · exact effect_of_jump _ ((exec_jcond k addr s).trans (jumpIf_eq k addr s))

/-- Settles O36: CALL and a Ccond taken push `PC+3` and jump, a Ccond not taken jumps to the next instruction. -/
theorem callsPushTheReturnAddress : Obligations.CallsPushTheReturnAddress := by
  refine ⟨fun addr => ⟨rfl, .of_encode rfl rfl rfl, fun s => effect_of_push16_jump (s.pc + 3) addr rfl⟩,
    fun k addr => ⟨?_, ?_, fun s => ?_⟩⟩
  · cases k <;> rfl
  · cases k <;> exact .of_encode rfl rfl rfl
  · rw [exec_ccond]
    by_cases hk : k.holds s.f = true
    · obtain ⟨t, ht, hpc, hsp, hhigh, hlow, hmem, frame⟩ :=
        effect_of_push16_jump (s.pc + 3) addr (callIf_of_holds hk addr)
      exact ⟨t, ht, (if_pos hk).mpr ⟨hpc, hsp, hhigh, hlow, hmem⟩, frame⟩
    · obtain ⟨t, ht, hpc, hregs, hf, hsp, hmem, hrest⟩ := effect_of_jump _ (callIf_of_not_holds hk addr)
      exact ⟨t, ht, (if_neg hk).mpr ⟨hpc, hsp, hmem⟩, hregs, hf, hrest⟩

end Sys2Proof
end

section
/-! Control (48_control.md): which bytes are NOP, what an undefined byte does to the step, and the effect of a one-byte
instruction that writes `IE` and `HALT` at most. -/

namespace Sys2Proof.Machine

/-! ### The bytes -/

/-- The encoder tells the bytes apart: what decodes to NOP has NOP's encoding, which begins with `0x00` (R370). -/
theorem decodeOp_eq_nop_iff (op b1 b2 : Byte) : decodeOp op b1 b2 = .nop ↔ op = 0x00 := by
  refine ⟨fun h => ?_, ?_⟩
  · have henc : encode .nop = op :: _ := h ▸ encode_decodeOp op b1 b2
    exact (List.cons.inj henc).1.symm
  · rintro rfl
    rfl

/-- A core that is not halted stops at an undefined byte, whatever bytes follow it (R375). -/
theorem step_of_mem_undefinedOpcodes (s : State) (hhalt : s.halt = false)
    (hop : s.readByte s.pc ∈ undefinedOpcodes) : step s = .fault (.unimplementedOpcode (s.readByte s.pc)) := by
  rw [step_running s hhalt, State.fetch, decodeOp_of_mem_undefinedOpcodes _ _ _ hop, exec_undefined]

/-! ### Frames -/

section
variable {s t : State}

@[simp] theorem DeviceSame.refl (s : State) : DeviceSame s s := (RestSame.refl s).2

@[simp] theorem deviceSame_advance (n : Nat) : DeviceSame s (t.advance n) ↔ DeviceSame s t := Iff.rfl
@[simp] theorem deviceSame_setControl (ie halt : Bool) : DeviceSame s (t.setControl ie halt) ↔ DeviceSame s t := Iff.rfl

end

/-- An instruction of one byte that leaves `IE` and `HALT` at the values given and writes nothing else but `PC`. For NOP
they are the state's own. -/
theorem effect_of_advance_setControl (ie halt : Bool) {s : State} {o : Result}
    (ho : o = .next ((s.advance 1).setControl ie halt)) :
    ∃ t, o = .next t ∧ t.ie = ie ∧ t.halt = halt ∧ t.pc = s.pc + 1 ∧ RegsSameBut [] s t ∧ t.f = s.f ∧ t.sp = s.sp ∧
      MemorySame s t ∧ DeviceSame s t :=
  ⟨_, ho, by simp, by simp, by simp, fun r _ => by simp, by simp, by simp, fun x => by simp, by simp⟩

end Sys2Proof.Machine
end

section
/-! Two obligations of 48_control.md: NOP and DI, and the undefined bytes. -/

namespace Sys2Proof

open Machine

/-- Settles O12: the map, `exec` and the step at each of the twelve bytes, which are the list `undefinedOpcodes`. -/
theorem undefinedOpcodesStop : Obligations.UndefinedOpcodesStop := by
  refine fun op hop => ⟨fun b1 b2 => decodeOp_of_mem_undefinedOpcodes op b1 b2 hop, exec_undefined op, ?_⟩
  rintro s hhalt rfl
  exact step_of_mem_undefinedOpcodes s hhalt hop

/-- Settles O49: only `0x00` has NOP's encoding, the seven bytes are among the undefined ones, a fetch from empty memory
reads `0x00`, and NOP and DI write `PC` and `IE` at most. -/
theorem nopAndDi : Obligations.NopAndDi := by
  refine ⟨rfl, .of_encode rfl rfl rfl, decodeOp_eq_nop_iff, fun op hop b1 b2 s => ?seven, fun s hs => ?empty,
    rfl, .of_encode rfl rfl rfl, fun s => ⟨?nop, ?di⟩⟩
  case seven =>
    have hsub : ([0x08, 0x10, 0x18, 0x20, 0x28, 0x30, 0x38] : List Byte) ⊆ undefinedOpcodes := by decide
    rw [decodeOp_of_mem_undefinedOpcodes op b1 b2 (hsub hop), exec_undefined]
  case empty => exact (decodeOp_eq_nop_iff _ _ _).mpr (hs s.pc)
  case nop => exact effect_of_advance_setControl s.ie s.halt rfl
  case di => exact effect_of_advance_setControl false s.halt rfl

end Sys2Proof
end

section
/-! The port bridge and interrupt delivery (60_exceptions.md): the window of the shift register as an integer and bit by
bit, the frame that every OUT has, and the state a taken interrupt leaves. -/

namespace Sys2Proof.Machine

/-! ### The window of the shift register (R436) -/

section
variable (hi lo : Byte) (off : BitVec 3)

theorem toNat_shiftWindow :
    (shiftWindow hi lo off).toNat = (hi.toNat * 256 + lo.toNat) / 2 ^ (8 - off.toNat) % 256 := by
  rw [shiftWindow, loByte, BitVec.extractLsb'_toNat, Nat.shiftRight_zero, BitVec.toNat_ushiftRight,
    Nat.shiftRight_eq_div_pow, joinBytes, toNat_append_eq_add]
  rfl

/-- The bits from the offset up are the low bits of the high byte; below it stand the top bits of the low byte. -/
theorem shiftWindow_getLsbD {k : Nat} (hk : k < 8) :
    (shiftWindow hi lo off).getLsbD k =
      if off.toNat ≤ k then hi.getLsbD (k - off.toNat) else lo.getLsbD (8 - off.toNat + k) := by
  have hoff : off.toNat < 8 := off.isLt
  have hbit : (shiftWindow hi lo off).getLsbD k = (joinBytes hi lo).getLsbD (8 - off.toNat + k) := by
    rw [shiftWindow, loByte_getLsbD, decide_eq_true hk, Bool.true_and, Nat.zero_add, BitVec.getLsbD_ushiftRight]
  rw [hbit, joinBytes_getLsbD]
  by_cases h : off.toNat ≤ k
  · have hhigh : ¬ 8 - off.toNat + k < 8 := by omega
    have hindex : 8 - off.toNat + k - 8 = k - off.toNat := by omega
    rw [if_pos h, if_neg hhigh, hindex]
  · have hlow : 8 - off.toNat + k < 8 := by omega
    rw [if_neg h, if_pos hlow]

theorem shiftWindow_zero : shiftWindow hi lo 0 = hi :=
  BitVec.eq_of_getLsbD_eq fun k hk => (shiftWindow_getLsbD hi lo 0 hk).trans (if_pos k.zero_le)

end

/-! ### Port reads and writes (R431, R432) -/

/-- IN 3 is a load of `A` with the window. -/
theorem exec_inPort_three (s : State) :
    exec (.inPort 3) s = .next ((s.setReg .a (shiftWindow s.srHi s.srLo s.srOff)).advance 2) := rfl

theorem exec_outPort (port : Byte) (s : State) :
    exec (.outPort port) s = .next ((s.portOut port s.a).advance 2) := rfl

/-- What OUT leaves at every port. The shift register and the sound latches depend on the port. -/
theorem portOut_advance_frame (port v : Byte) {s t : State} (ht : t = (s.portOut port v).advance 2) :
    t.pc = s.pc + 2 ∧ RegsSameBut [] s t ∧ t.f = s.f ∧ t.sp = s.sp ∧ MemorySame s t ∧ ControlSame s t ∧
      InputsSame s t ∧ t.draws = s.draws := by
  subst ht
  exact ⟨by simp, fun r _ => by simp, by simp, by simp, fun x => by simp, ⟨by simp, by simp⟩, ⟨by simp, by simp⟩,
    by simp⟩

/-! ### Taking an interrupt (R410) -/

/-- A delivery that is taken pushes `PC` and jumps as a call does, and clears `IE`. -/
theorem deliver_effect_of_armed {v : Nat} {s : State}
    (hd : deliver v s = .ok ((s.enterVector v s.pc).setIE false)) :
    ∃ t, deliver v s = .ok t ∧ t.readByte (s.sp - 1) = hiByte s.pc ∧ t.readByte (s.sp - 2) = loByte s.pc ∧
      MemorySameBut [s.sp - 1, s.sp - 2] s t ∧ t.sp = s.sp - 2 ∧ t.pc = BitVec.ofNat 16 (8 * v) ∧ t.ie = false ∧
      RegsSameBut [] s t ∧ t.f = s.f ∧ t.halt = s.halt ∧ DeviceSame s t := by
  obtain ⟨u, hu, hpc, hsp, hhigh, hlow, hmem, hregs, hf, ⟨-, hhalt⟩, hdev⟩ :=
    effect_of_push16_jump s.pc _ (rfl : Host.Outcome.next (s.enterVector v s.pc) = _)
  obtain rfl := Host.Outcome.next.inj hu
  exact ⟨_, hd, hhigh, hlow, hmem, hsp, hpc, rfl, hregs, hf, hhalt, hdev⟩

/-- The address of a vector fits in 16 bits. -/
theorem toNat_vectorAddress {v : Nat} (hv : v ≤ 7) : (BitVec.ofNat 16 (8 * v)).toNat = 8 * v := by
  have hlt : 8 * v < 2 ^ 16 := by omega
  rw [BitVec.toNat_ofNat, Nat.mod_eq_of_lt hlt]

end Sys2Proof.Machine
end

section
/-! Three obligations of 60_exceptions.md. -/

namespace Sys2Proof

open Machine

/-- Settles O46: IN 3 loads `A` with the window, read as an integer and bit by bit. -/
theorem shiftWindowFormula : Obligations.ShiftWindowFormula := by
  intro s
  obtain ⟨t, ht, ha, -⟩ := effect_of_setReg .a _ 2 (exec_inPort_three s)
  have hwindow : t.a = shiftWindow s.srHi s.srLo s.srOff := ha
  refine ⟨t, ht, ?_⟩
  rw [hwindow]
  refine ⟨toNat_shiftWindow _ _ _, fun hoff => ?_, fun k hk => shiftWindow_getLsbD _ _ _ hk⟩
  rw [hoff, shiftWindow_zero]

/-- Settles O47: the frame is that of every OUT; the offset is the low three bits of `A`. -/
theorem outWritesTheShifter : Obligations.OutWritesTheShifter := by
  refine fun s => ⟨?port2, ?port4⟩
  case port2 =>
    obtain ⟨hpc, hregs, hf, hsp, hmem, hcontrol, hinputs, hdraws⟩ := portOut_advance_frame 2 s.a (s := s) rfl
    have hoff : (s.a.extractLsb' 0 3).toNat = s.a.toNat % 8 := by
      rw [BitVec.extractLsb'_toNat, Nat.shiftRight_zero]
    exact ⟨_, exec_outPort 2 s, hoff, rfl, rfl, hpc, hregs, hf, hsp, hmem, hcontrol, hinputs, ⟨rfl, rfl, rfl⟩, hdraws⟩
  case port4 =>
    obtain ⟨hpc, hregs, hf, hsp, hmem, hcontrol, hinputs, hdraws⟩ := portOut_advance_frame 4 s.a (s := s) rfl
    exact ⟨_, exec_outPort 4 s, rfl, rfl, rfl, hpc, hregs, hf, hsp, hmem, hcontrol, hinputs, ⟨rfl, rfl, rfl⟩, hdraws⟩

/-- Settles O51: the three outcomes of a delivery, and the effect of the one that is taken. -/
theorem deliveryEntersTheVector : Obligations.DeliveryEntersTheVector := by
  intro v s
  rcases deliver_cases v s with ⟨hv, hd⟩ | ⟨hv, hie, hd⟩ | ⟨hv, hie, hd⟩
  · rwa [if_pos hv]
  · rwa [if_neg hv.not_gt, if_pos hie]
  · have harmed : s.ie ≠ false := by simp [hie]
    rw [if_neg hv.not_gt, if_neg harmed]
    obtain ⟨t, ht, hhigh, hlow, hmem, hsp, hpc, frame⟩ := deliver_effect_of_armed hd
    exact ⟨t, ht, hhigh, hlow, hmem, hsp, hpc ▸ toNat_vectorAddress hv, frame⟩

end Sys2Proof
end

section
/-! The decoder and the encoder against each other (30_encoding.md sections 1 to 5): both are read off one map, and each
undoes the other. -/

namespace Sys2Proof

open Machine

/-! ### The decoder on the bytes of one instruction -/

/-- The decoder takes the opcode byte with as many of the next two bytes as its length says; the map ignores the rest. -/
theorem decode_cons_take (op b1 b2 : Byte) (rest : List Byte) :
    decode (op :: [b1, b2].take (opLength op - 1) ++ rest) = .ok (decodeOp op b1 b2, rest) := by
  rcases opLength_cases op with hl | hl | hl
  · have hop : decodeOp op 0 0 = decodeOp op b1 b2 := decodeOp_congr _ _ _ _ _ (by rw [hl]; rfl)
    simp [decode, hl, ← hop]
  · have hop : decodeOp op b1 0 = decodeOp op b1 b2 := decodeOp_congr _ _ _ _ _ (by rw [hl]; rfl)
    simp [decode, hl, ← hop]
  · simp [decode, hl]

/-- Three bytes hold a whole instruction, whatever they are. -/
theorem decode_three_bytes (op b1 b2 : Byte) : ∃ rest, decode [op, b1, b2] = .ok (decodeOp op b1 b2, rest) := by
  refine ⟨[b1, b2].drop (opLength op - 1), ?_⟩
  rw [← decode_cons_take, List.cons_append, List.take_append_drop]

/-! ### The map is onto the well-formed instructions -/

/-- The map has the instruction at the bytes that encode it. -/
def InMap (i : Instr) : Prop :=
  ∃ op operands, encode i = op :: operands ∧ decodeOp op (operands.getD 0 0) (operands.getD 1 0) = i

/-- An instruction with a word operand: the two bytes of the word make it again. -/
theorem inMap_word {form : Word → Instr} {op : Byte} (v : Word) (he : encode (form v) = encodeWord op v)
    (hd : ∀ b1 b2, decodeOp op b1 b2 = form (joinBytes b2 b1)) : InMap (form v) :=
  ⟨op, [loByte v, hiByte v], he, (hd _ _).trans (congrArg form (joinBytes_hiByte_loByte v))⟩

theorem inMap_of_wellFormed (i : Instr) (h : i.wellFormed = true) : InMap i := by
  cases i using instr_cases with
  | lxi p v => cases p <;> exact inMap_word v rfl fun _ _ => rfl
  | jcond k v => cases k <;> exact inMap_word v rfl fun _ _ => rfl
  | ccond k v => cases k <;> exact inMap_word v rfl fun _ _ => rfl
  | shld v | lhld v | sta v | lda v | jmp v | call v => exact inMap_word v rfl fun _ _ => rfl
  | movReg x y => cases x <;> cases y <;> exact ⟨_, _, rfl, rfl⟩
  | movLoad x | movStore x => cases x <;> exact ⟨_, _, rfl, rfl⟩
  | mvi x v | inr x | dcr x =>
    cases x with
    | reg r => cases r <;> exact ⟨_, _, rfl, rfl⟩
    | m => exact ⟨_, _, rfl, rfl⟩
  | add x | adc x | sub x | sbb x | ana x | xra x | ora x | cmp x =>
    cases x with
    | reg r => cases r <;> exact ⟨_, _, rfl, rfl⟩
    | m | imm v => exact ⟨_, _, rfl, rfl⟩
  | inx p | dcx p | dad p | push p | pop p => cases p <;> exact ⟨_, _, rfl, rfl⟩
  | rcond k => cases k <;> exact ⟨_, _, rfl, rfl⟩
  | rst n => match n with | 0 | 1 | 2 | 3 | 4 | 5 | 6 | 7 => exact ⟨_, _, rfl, rfl⟩
  | nop | staxB | rlc | ldaxB | rrc | staxD | ral | ldaxD | rar | daa | cma | stc | cmc | hlt | ret | outPort p | inPort p
  | xthl | pchl | xchg | di | sphl | ei => exact ⟨_, _, rfl, rfl⟩
  | undefined op =>
    exact ⟨op, [], rfl, decodeOp_of_mem_undefinedOpcodes op 0 0 (List.contains_iff_mem.mp h)⟩

/-! ### The map holds well-formed instructions only -/

/-- Sixteen rows of sixteen, and every instruction in them is well formed. -/
theorem opcodeMap_wellFormed (b1 b2 : Byte) :
    (opcodeMap b1 b2).length = 16 ∧
      ∀ row ∈ opcodeMap b1 b2, row.length = 16 ∧ ∀ i ∈ row, i.wellFormed = true := by
  refine ⟨rfl, fun row hrow => ?_⟩
  have hall : ((opcodeMap b1 b2).all fun row => row.length == 16 && row.all Instr.wellFormed) = true := rfl
  simpa using List.all_eq_true.mp hall row hrow

theorem decodeOp_wellFormed (op b1 b2 : Byte) : (decodeOp op b1 b2).wellFormed = true := by
  obtain ⟨hrows, hrow⟩ := opcodeMap_wellFormed b1 b2
  have hhigh : op.toNat / 16 < (opcodeMap b1 b2).length := by omega
  obtain ⟨hlen, hwf⟩ := hrow _ (List.getElem_mem hhigh)
  have hlow : op.toNat % 16 < (opcodeMap b1 b2)[op.toNat / 16].length := by omega
  rw [decodeOp, List.getD_eq_getElem _ _ hhigh, List.getD_eq_getElem _ _ hlow]
  exact hwf _ (List.getElem_mem hlow)

/-! ### The obligations -/

/-- Settles O9: every well-formed instruction is in the map, at bytes that the encoder gives back and the decoder takes. -/
theorem decodeOfEncode : Obligations.DecodeOfEncode := by
  intro i rest h
  obtain ⟨op, operands, -, rfl⟩ := inMap_of_wellFormed i h
  rw [encode_decodeOp, decode_cons_take]

/-- Settles O10: in each of the three lengths, the encoder gives back the bytes that the map read. -/
theorem encodeOfDecode : Obligations.EncodeOfDecode := by
  intro bytes rest i h
  obtain ⟨op, b1, b2, rfl, hcases⟩ := decode_cases _ _ _ h
  refine ⟨decodeOp_wellFormed op b1 b2, ?_⟩
  rw [encode_decodeOp]
  rcases hcases with ⟨hl, -, -, rfl⟩ | ⟨hl, -, rfl⟩ | ⟨hl, rfl⟩ <;> rw [hl] <;> rfl

/-- Settles O7: three bytes are enough for every opcode byte, and the map is well formed. -/
theorem fetchAlwaysDecodes : Obligations.FetchAlwaysDecodes :=
  fun op b1 b2 => ⟨decodeOp_wellFormed op b1 b2, decode_three_bytes op b1 b2⟩

/-- Settles O8: the words are read off the map. -/
theorem attestedWordsDecode : Obligations.AttestedWordsDecode :=
  ⟨rfl, rfl, rfl, rfl, rfl, rfl⟩

/-- Settles O6: what the three bytes at `PC` decode to is what the fetch reads from the map. -/
theorem stepRunsDecodedInstruction : Obligations.StepRunsDecodedInstruction := by
  refine ⟨fun s i rest h => ?_, step_halted⟩
  obtain ⟨rest', hfetch⟩ := decode_three_bytes (s.readByte s.pc) (s.readByte (s.pc + 1)) (s.readByte (s.pc + 2))
  obtain ⟨rfl, -⟩ := Prod.mk.inj (Except.ok.inj (hfetch.symm.trans h))
  exact ⟨rfl, step_running s⟩

end Sys2Proof
end

section
/-! What an instruction can change beside registers, `SP`, `PC`, `IE` and `HALT`, said once for every instruction: memory,
the unused bits of `F`, the port bridge. -/

namespace Sys2Proof.Machine

/-! ### Frames -/

section
variable {s t : State}

@[simp] theorem restSame_setSP (v : Word) : RestSame s (t.setSP v) ↔ RestSame s t := Iff.rfl
@[simp] theorem restSame_drop16 : RestSame s t.drop16 ↔ RestSame s t := Iff.rfl
@[simp] theorem restSame_returnFrom : RestSame s t.returnFrom ↔ RestSame s t := Iff.rfl
@[simp] theorem restSame_enterVector (n : Nat) (v : Word) : RestSame s (t.enterVector n v) ↔ RestSame s t := by
  simp [State.enterVector]
@[simp] theorem restSame_setLoc (x : Loc) (v : Byte) : RestSame s (t.setLoc x v) ↔ RestSame s t := by
  cases x with
  | reg r => exact restSame_setReg r v
  | m => exact Iff.rfl
@[simp] theorem restSame_setStackPair (p : StackPair) (v : Word) :
    RestSame s (t.setStackPair p v) ↔ RestSame s t := by
  cases p <;> exact Iff.rfl

end

@[simp] theorem State.setLoc_reg_mem (s : State) (r : Reg) (v : Byte) : (s.setLoc (.reg r) v).mem = s.mem :=
  s.setReg_mem r v

/-! ### The unused bits of `F` (10_state.md R29) -/

section
variable (f : Flags) (x y : Byte)

@[simp] theorem UnusedSame.refl : UnusedSame f f := ⟨rfl, rfl, rfl⟩
@[simp] theorem unusedSame_setCY (b : Bool) : UnusedSame f (f.setCY b) := ⟨rfl, rfl, rfl⟩
@[simp] theorem unusedSame_afterAdd (cin : Bool) : UnusedSame f (f.afterAdd x y cin) := ⟨rfl, rfl, rfl⟩
@[simp] theorem unusedSame_afterSub (bin : Bool) : UnusedSame f (f.afterSub x y bin) := ⟨rfl, rfl, rfl⟩
@[simp] theorem unusedSame_afterInc : UnusedSame f (f.afterInc x) := ⟨rfl, rfl, rfl⟩
@[simp] theorem unusedSame_afterDec : UnusedSame f (f.afterDec x) := ⟨rfl, rfl, rfl⟩
@[simp] theorem unusedSame_afterLogic (op : LogicOp) : UnusedSame f (f.afterLogic op x y) := ⟨rfl, rfl, rfl⟩
@[simp] theorem unusedSame_afterDaaWith (reading : DaaHi) : UnusedSame f (f.afterDaaWith reading x) := ⟨rfl, rfl, rfl⟩

end

/-! ### What each instruction can change -/

/-- From `s` to `t`, only what `i` may change has changed. -/
structure Allowed (i : Instr) (s t : State) : Prop where
  /-- Memory is as before, or the instruction is one of those that store, and its stores keep the canonical form. -/
  memory : t.mem = s.mem ∨ storesMemory i = true ∧ (s.Inv → t.Inv)
  /-- The unused bits of `F` are as before. -/
  unused : i ≠ .popPSW → UnusedSame s.f t.f
  /-- The input shadows are as before. -/
  inputs : InputsSame s t
  /-- The shift register and the sound latches are as before. -/
  latches : (∀ port, i ≠ .outPort port) → ShifterSame s t ∧ t.snd3 = s.snd3 ∧ t.snd5 = s.snd5

/-- The instruction completes from every state, and changes only what it may. -/
def Completes (i : Instr) : Prop := ∃ u, Leaves i u ∧ ∀ s, Allowed i s (u s)

section
variable {i : Instr} {u : State → State}

theorem allowed_of_deviceSame {s t : State} (hmem : t.mem = s.mem ∨ storesMemory i = true ∧ (s.Inv → t.Inv))
    (hf : i ≠ .popPSW → UnusedSame s.f t.f) (hdev : DeviceSame s t) : Allowed i s t := by
  obtain ⟨hin, hshift, ⟨h3, h5, -⟩, -⟩ := hdev
  exact ⟨hmem, hf, hin, fun _ => ⟨hshift, h3, h5⟩⟩

/-- An instruction that stores nothing and uses neither the ports nor `IE` nor `HALT`. -/
theorem Completes.of_mem_eq (hu : Leaves i u) (hmem : ∀ s, (u s).mem = s.mem := by simp)
    (hf : ∀ s, UnusedSame s.f (u s).f := by simp) (hrest : ∀ s, RestSame s (u s) := by simp) : Completes i :=
  ⟨u, hu, fun s => allowed_of_deviceSame (.inl (hmem s)) (fun _ => hf s) (hrest s).2⟩

/-- An instruction that stores. -/
theorem Completes.of_stores (hu : Leaves i u) (hi : storesMemory i = true) (hinv : ∀ s : State, s.Inv → (u s).Inv)
    (hf : ∀ s, UnusedSame s.f (u s).f := by simp) (hrest : ∀ s, RestSame s (u s) := by simp) : Completes i :=
  ⟨u, hu, fun s => allowed_of_deviceSame (.inr ⟨hi, hinv s⟩) (fun _ => hf s) (hrest s).2⟩

end

/-- Every instruction but `undefined`, family by family. -/
theorem completes_of_ne_undefined (i : Instr) (h : ∀ op, i ≠ .undefined op) : Completes i := by
  cases i using instr_cases with
  | undefined op => exact absurd rfl (h op)
  | movReg x y => exact .of_mem_eq (exec_movReg x y)
  | movLoad x => exact .of_mem_eq (exec_movLoad x)
  | lxi p v => exact .of_mem_eq (exec_lxi p v)
  | add x => exact .of_mem_eq (exec_add x)
  | adc x => exact .of_mem_eq (exec_adc x)
  | sub x => exact .of_mem_eq (exec_sub x)
  | sbb x => exact .of_mem_eq (exec_sbb x)
  | ana x => exact .of_mem_eq (exec_ana x)
  | xra x => exact .of_mem_eq (exec_xra x)
  | ora x => exact .of_mem_eq (exec_ora x)
  | cmp x => exact .of_mem_eq (exec_cmp x)
  | inx p => exact .of_mem_eq (exec_inx p)
  | dcx p => exact .of_mem_eq (exec_dcx p)
  | dad p => exact .of_mem_eq (exec_dad p)
  | jcond k v =>
    exact .of_mem_eq (leaves_jcond k v) (fun s => by split <;> simp) (fun s => by split <;> simp)
      fun s => by split <;> simp
  | rcond k =>
    exact .of_mem_eq (leaves_rcond k) (fun s => by split <;> simp) (fun s => by split <;> simp)
      fun s => by split <;> simp
  | nop | rlc | ldaxB | rrc | ral | ldaxD | rar | daa | lhld v | cma | stc | lda v | cmc | jmp v | ret | pchl | xchg
  | sphl => exact .of_mem_eq (fun _ => rfl)
  | mvi x v =>
    cases x with
    | reg r => exact .of_mem_eq (exec_mvi (.reg r) v)
    | m => exact .of_stores (exec_mvi .m v) rfl (fun s => s.setLoc_wf .m _)
  | inr x =>
    cases x with
    | reg r => exact .of_mem_eq (exec_inr (.reg r))
    | m => exact .of_stores (exec_inr .m) rfl (fun s => s.setLoc_wf .m _)
  | dcr x =>
    cases x with
    | reg r => exact .of_mem_eq (exec_dcr (.reg r))
    | m => exact .of_stores (exec_dcr .m) rfl (fun s => s.setLoc_wf .m _)
  | movStore x => exact .of_stores (exec_movStore x) (by cases x <;> rfl) (fun s => s.setLoc_wf .m _)
  | staxB | staxD | sta v => exact .of_stores (fun _ => rfl) rfl (fun s => s.writeByte_wf _ _)
  | shld v | xthl => exact .of_stores (fun _ => rfl) rfl (fun s => s.writeWord_wf _ _)
  | push p => exact .of_stores (exec_push p) (by cases p <;> rfl) (fun s => s.push16_wf _)
  | call v => exact .of_stores (fun _ => rfl) rfl (fun s => s.push16_wf _)
  | ccond k v =>
    refine .of_stores (leaves_ccond k v) (by cases k <;> rfl) (fun s hs => ?_) (fun s => by split <;> simp)
      fun s => by split <;> simp
    split
    · exact s.push16_wf _ hs
    · exact hs
  | rst n =>
    refine .of_stores (exec_rst n) ?_ (fun s => s.enterVector_wf _ _)
    match n with | 0 | 1 | 2 | 3 | 4 | 5 | 6 | 7 => rfl
  | pop p =>
    refine ⟨_, exec_pop p, fun s => ?_⟩
    have hrest : RestSame s ((s.drop16.setStackPair p s.top16).advance 1) := by simp
    refine allowed_of_deviceSame (.inl (by simp)) (fun hp => ?_) hrest.2
    cases p with
    | psw => exact absurd rfl hp
    | bc | de | hl => simp [State.setStackPair]
  | hlt | di | ei =>
    exact ⟨_, fun _ => rfl, fun s => allowed_of_deviceSame (.inl rfl) (fun _ => by simp) (DeviceSame.refl s)⟩
  | inPort port =>
    exact ⟨_, fun _ => rfl, fun s => ⟨.inl (by simp), fun _ => by simp, by simp [InputsSame],
      fun _ => by simp [ShifterSame]⟩⟩
  | outPort port =>
    exact ⟨_, exec_outPort port, fun s => ⟨.inl (by simp), fun _ => by simp, by simp [InputsSame],
      fun h => absurd rfl (h port)⟩⟩

end Sys2Proof.Machine
end

section
/-! What every instruction and every step keeps: memory and its canonical form, the unused bits of `F`, the port bridge,
`HALT`. -/

namespace Sys2Proof.Machine

/-! ### Every instruction but `undefined` completes (60_exceptions.md section 1) -/

theorem exec_next_or_undefined (i : Instr) (s : State) : (∃ t, exec i s = .next t) ∨ ∃ op, i = .undefined op := by
  by_cases hi : ∃ op, i = .undefined op
  · exact .inr hi
  · obtain ⟨u, hu, -⟩ := completes_of_ne_undefined i (not_exists.mp hi)
    exact .inl ⟨u s, hu s⟩

/-- An instruction that completes changes only what it may. -/
theorem exec_allowed {i : Instr} {s t : State} (h : exec i s = .next t) : Allowed i s t := by
  have hi : ∀ op, i ≠ .undefined op := by
    rintro op rfl
    exact exec_undefined_ne_next op s t h
  obtain ⟨u, hu, hallowed⟩ := completes_of_ne_undefined i hi
  exact hu.eq h ▸ hallowed s

/-! ### Memory -/

theorem memorySame_of_mem_eq {s t : State} (h : t.mem = s.mem) : MemorySame s t :=
  fun x => congrArg (Memory.read · x.toNat) h

theorem exec_memorySame {i : Instr} {s t : State} (hi : storesMemory i = false) (h : exec i s = .next t) :
    MemorySame s t := by
  rcases (exec_allowed h).memory with hmem | ⟨hstores, -⟩
  · exact memorySame_of_mem_eq hmem
  · exact absurd hstores (Bool.eq_false_iff.mp hi)

theorem exec_inv {i : Instr} {s t : State} (hs : s.Inv) (h : exec i s = .next t) : t.Inv := by
  rcases (exec_allowed h).memory with hmem | ⟨-, hinv⟩
  · rwa [State.Inv, hmem]
  · exact hinv hs

theorem step_inv {s t : State} (hs : s.Inv) (h : step s = .next t) : t.Inv := by
  cases hhalt : s.halt with
  | true =>
    rw [step_halted s hhalt] at h
    exact Host.Outcome.next.inj h ▸ hs
  | false =>
    rw [step_running s hhalt] at h
    exact exec_inv hs h

/-! ### The latches of the port bridge (60_exceptions.md R432) -/

/-- Each latch is written at its own port only. -/
theorem portOut_latches (port v : Byte) (s : State) :
    (port ≠ 4 → (s.portOut port v).srHi = s.srHi ∧ (s.portOut port v).srLo = s.srLo) ∧
      (port ≠ 2 → (s.portOut port v).srOff = s.srOff) ∧ (port ≠ 3 → (s.portOut port v).snd3 = s.snd3) ∧
      (port ≠ 5 → (s.portOut port v).snd5 = s.snd5) := by
  rcases portOut_cases s port v with ⟨rfl, h⟩ | ⟨rfl, h⟩ | ⟨rfl, h⟩ | ⟨rfl, h⟩ | ⟨-, h⟩ <;> rw [h] <;> simp

/-- OUT writes the latch of its port at most. -/
theorem exec_outPort_latches {port : Byte} {s t : State} (h : exec (.outPort port) s = .next t) :
    (port ≠ 4 → t.srHi = s.srHi ∧ t.srLo = s.srLo) ∧ (port ≠ 2 → t.srOff = s.srOff) ∧
      (port ≠ 3 → t.snd3 = s.snd3) ∧ (port ≠ 5 → t.snd5 = s.snd5) := by
  cases h
  exact portOut_latches port s.a s

/-! ### `HALT` (10_state.md R34) -/

/-- Every instruction but HLT runs the same whatever `HALT` is, EI and DI included. -/
theorem exec_setHalt (i : Instr) (s t : State) (b : Bool) (hhlt : i ≠ .hlt) (h : exec i s = .next t) :
    exec i (s.setHalt b) = .next (t.setHalt b) := by
  by_cases hei : i = .ei
  · subst hei
    cases h
    rfl
  by_cases hdi : i = .di
  · subst hdi
    cases h
    rfl
  have hie : t.ie = s.ie := (exec_controlSame i s t hei hdi hhlt h).1
  have hc : exec i (s.setHalt b) = .next (t.setControl s.ie b) := exec_setControl s s.ie b i t hei hdi hhlt h
  rwa [← hie] at hc

theorem exec_keeps_halt (i : Instr) (s t : State) (hhlt : i ≠ .hlt) (h : exec i s = .next t) : t.halt = s.halt := by
  have hs : exec i s = .next (t.setHalt s.halt) := exec_setHalt i s t s.halt hhlt h
  rw [h] at hs
  rw [Host.Outcome.next.inj hs, State.setHalt_halt]

/-! ### A delivery, by `IE` (60_exceptions.md R410) -/

theorem deliver_of_disarmed {v : Nat} {s : State} (hv : v ≤ 7) (hie : s.ie = false) : deliver v s = .ok s := by
  rw [deliver, if_neg hv.not_gt, if_pos hie]

theorem deliver_of_armed {v : Nat} {s : State} (hv : v ≤ 7) (hie : s.ie = true) :
    deliver v s = .ok ((s.enterVector v s.pc).setIE false) := by
  rw [deliver, if_neg hv.not_gt, if_neg (ne_false_of_eq_true hie)]

theorem deliver_setHalt (v : Nat) (s t : State) (b : Bool) (h : deliver v s = .ok t) :
    t.halt = s.halt ∧ deliver v (s.setHalt b) = .ok (t.setHalt b) := by
  rcases deliver_cases v s with ⟨-, hd⟩ | ⟨hv, hie, hd⟩ | ⟨hv, hie, hd⟩ <;> rw [hd] at h <;> cases h
  · exact ⟨rfl, deliver_of_disarmed hv hie⟩
  · exact ⟨by simp, deliver_of_armed hv hie⟩

end Sys2Proof.Machine
end

section
/-! The obligations that speak of every instruction or every step. -/

namespace Sys2Proof

open Machine

/-- Settles O2: the reset state lists no byte. -/
theorem resetMeetsInvariant : Obligations.ResetMeetsInvariant := Memory.wf_nil

/-- Settles O3: a step runs an instruction or does nothing, and stores keep the canonical form. -/
theorem stepKeepsInvariant : Obligations.StepKeepsInvariant := fun _ _ => step_inv

/-- Settles O13: what is left is the fault of `undefined`. -/
theorem onlyUndefinedOpcodesStop : Obligations.OnlyUndefinedOpcodesStop := by
  intro i s
  rcases exec_next_or_undefined i s with hnext | ⟨op, rfl⟩
  · exact .inl hnext
  · exact .inr ⟨op, rfl, exec_undefined op s⟩

/-- Settles O55: HLT by its own meaning, all other instructions by `exec_setHalt`. -/
theorem haltIsSetByHltAndReadByNothing : Obligations.HaltIsSetByHltAndReadByNothing := by
  refine ⟨fun i s t h => ?_, exec_setHalt, deliver_setHalt⟩
  by_cases hhlt : i = .hlt
  · subst hhlt
    cases h
    simp
  · rw [exec_keeps_halt i s t hhlt h, decide_eq_false hhlt, Bool.or_false]

/-- Settles O56: POP PSW is the one exception among the instructions that may change `F`. -/
theorem unusedFlagBitsAndInputsKeep : Obligations.UnusedFlagBitsAndInputsKeep :=
  ⟨fun _ _ _ hi h => (exec_allowed h).unused hi, fun _ _ _ h => (exec_allowed h).inputs⟩

/-- Settles O57: an instruction that is no OUT keeps all latches, and OUT those of the other ports. -/
theorem latchesAreWrittenByOutOnly : Obligations.LatchesAreWrittenByOutOnly := by
  intro i s t h
  by_cases hout : ∃ port, i = .outPort port
  · obtain ⟨port, rfl⟩ := hout
    obtain ⟨hdata, hoff, h3, h5⟩ := exec_outPort_latches h
    simp only [Instr.outPort.injEq]
    refine ⟨fun hne => ?_, not_imp_comm.mp hoff, not_imp_comm.mp h3, not_imp_comm.mp h5⟩
    by_contra hport
    obtain ⟨hhi, hlo⟩ := hdata hport
    exact hne.elim (· hhi) (· hlo)
  · obtain ⟨⟨hhi, hlo, hoff⟩, h3, h5⟩ := (exec_allowed h).latches (not_exists.mp hout)
    exact ⟨fun hne => (hne.elim (· hhi) (· hlo)).elim, absurd hoff, absurd h3, absurd h5⟩

/-- Settles O58: what an instruction outside the list leaves is the memory it found. -/
theorem onlyStoresWriteMemory : Obligations.OnlyStoresWriteMemory := fun _ _ _ => exec_memorySame

end Sys2Proof
end

section
/-! The scheduler (60_exceptions.md R420 to R422): the loop of `run_for_budget` turn by turn, what it keeps, and that it
ends where every count is at least 1. -/

namespace Sys2Proof.Machine

/-! ### `execute` -/

/-- `execute` completes, and then the opcode byte is a defined one, or it is the fault of an undefined byte (R131, R400). -/
theorem execute_cases (cost : CycleTable) (s : State) :
    (∃ t taken, execute cost s = .ok t (cost (s.readByte s.pc) taken) ∧ exec s.fetch s = .next t ∧
      undefinedOpcodes.contains (s.readByte s.pc) = false) ∨
    ∃ op, execute cost s = .error (.unimplementedOpcode op) := by
  rcases exec_next_or_undefined s.fetch s with ⟨t, ht⟩ | ⟨op, hop⟩
  · refine .inl ⟨t, conditionHeld (s.readByte s.pc) s.f, by rw [execute, instructionStep, ht], ht, ?_⟩
    by_contra hundefined
    have hmem : s.readByte s.pc ∈ undefinedOpcodes := by simpa using hundefined
    rw [State.fetch, decodeOp_of_mem_undefinedOpcodes _ _ _ hmem] at ht
    exact exec_undefined_ne_next _ s t ht
  · exact .inr ⟨op, by rw [execute, instructionStep, hop, exec_undefined]⟩

/-! ### One turn of the loop (R420) -/

section
variable {cost : CycleTable} {budget acc acc' : Int} {s t : State} {r : BudgetResult}

/-- Where a turn ends the loop, the loop returns what the turn does. -/
theorem loopReturns_iff_of_final (h : (budgetTurn cost budget acc s).final = true) :
    LoopReturns cost budget acc s r ↔ r = budgetTurn cost budget acc s := by
  have hturn : LoopReturns cost budget acc s (budgetTurn cost budget acc s) :=
    ⟨h, 1, budgetLoop_succ_final cost budget acc 0 s h⟩
  exact ⟨fun hr => hr.unique hturn, fun hr => hr ▸ hturn⟩

/-- Where a turn goes on, the loop returns what the loop from there does. -/
theorem loopReturns_iff_of_running (h : budgetTurn cost budget acc s = .running t acc') :
    LoopReturns cost budget acc s r ↔ LoopReturns cost budget acc' t r := by
  have hsucc := fun turns => budgetLoop_succ_running cost budget acc acc' turns s t h
  constructor
  · rintro ⟨hfinal, turns, rfl⟩
    cases turns with
    | zero => cases hfinal
    | succ turns => exact ⟨hfinal, turns, (hsucc turns).symm⟩
  · rintro ⟨hfinal, turns, rfl⟩
    exact ⟨hfinal, turns + 1, hsucc turns⟩

theorem loopReturns_stop (h : ¬(acc < budget ∧ s.halt = false)) :
    LoopReturns cost budget acc s r ↔ r = .done s (acc - budget) := by
  have hturn := budgetTurn_stop cost budget acc s h
  rw [loopReturns_iff_of_final (hturn ▸ rfl), hturn]

/-- The body of the loop, where its test holds. -/
theorem loopReturns_body (h : acc < budget ∧ s.halt = false) :
    LoopReturns cost budget acc s r ↔
      (∃ t n, execute cost s = .ok t n ∧ LoopReturns cost budget (acc + n) t r) ∨
        ∃ f, execute cost s = .error f ∧ r = .error s f := by
  rcases execute_cases cost s with ⟨t, taken, he, -⟩ | ⟨op, he⟩
  · rw [loopReturns_iff_of_running (budgetTurn_ok cost budget acc s t _ h he)]
    simp [he]
  · have hturn := budgetTurn_error cost budget acc s _ h he
    rw [loopReturns_iff_of_final (hturn ▸ rfl), hturn]
    simp [he]

end

/-- One turn more: it goes on behind a defined opcode, or ends in the fault, or finds the test of the loop false. -/
theorem budgetLoop_succ_cases (cost : CycleTable) (budget : Int) (turns : Nat) (acc : Int) (s : State) :
    (∃ t taken, budgetLoop cost budget (turns + 1) acc s =
        budgetLoop cost budget turns (acc + cost (s.readByte s.pc) taken) t ∧
      acc < budget ∧ exec s.fetch s = .next t ∧ undefinedOpcodes.contains (s.readByte s.pc) = false) ∨
    (∃ op, budgetLoop cost budget (turns + 1) acc s = .error s (.unimplementedOpcode op)) ∨
    (¬(acc < budget ∧ s.halt = false) ∧ budgetLoop cost budget (turns + 1) acc s = .done s (acc - budget)) := by
  by_cases h : acc < budget ∧ s.halt = false
  · rcases execute_cases cost s with ⟨t, taken, he, hexec, hdefined⟩ | ⟨op, he⟩
    · have hturn := budgetTurn_ok cost budget acc s t _ h he
      exact .inl ⟨t, taken, budgetLoop_succ_running _ _ _ _ _ _ _ hturn, h.1, hexec, hdefined⟩
    · have hturn := budgetTurn_error cost budget acc s _ h he
      exact .inr (.inl ⟨op, (budgetLoop_succ_final _ _ _ _ _ (hturn ▸ rfl)).trans hturn⟩)
  · have hturn := budgetTurn_stop cost budget acc s h
    exact .inr (.inr ⟨h, (budgetLoop_succ_final _ _ _ _ _ (hturn ▸ rfl)).trans hturn⟩)

/-! ### Where every count is at least 1, the loop ends -/

/-- The default table charges for every defined opcode (70_reset_and_hazards.md R480). -/
theorem one_le_defaultCycles :
    ∀ op taken, undefinedOpcodes.contains op = false → 1 ≤ defaultCycles op taken := by decide

/-- The loop ends short of its budget only at a halt, or it ends in the fault. -/
def EndsProperly (r : BudgetResult) : Prop :=
  (∃ t left, r = .done t left ∧ (t.halt = true ∨ 0 ≤ left)) ∨ ∃ t op, r = .error t (.unimplementedOpcode op)

/-- Each turn uses up at least one cycle of what is left of the budget, so that more turns than cycles are enough. -/
theorem budgetLoop_endsProperly {cost : CycleTable}
    (hcost : ∀ op taken, undefinedOpcodes.contains op = false → 1 ≤ cost op taken) (budget : Int) (turns : Nat)
    (acc : Int) (s : State) (hturns : (budget - acc).toNat < turns) :
    EndsProperly (budgetLoop cost budget turns acc s) := by
  induction turns generalizing acc s with
  | zero => exact absurd hturns (Nat.not_lt_zero _)
  | succ turns ih =>
    rcases budgetLoop_succ_cases cost budget turns acc s with ⟨t, taken, hloop, hacc, -, hdefined⟩ | ⟨op, hloop⟩ |
      ⟨hstop, hloop⟩ <;> rw [hloop]
    · have hcount := hcost _ taken hdefined
      exact ih _ t (by omega)
    · exact .inr ⟨s, op, rfl⟩
    · refine .inl ⟨s, _, rfl, ?_⟩
      cases hhalt : s.halt with
      | true => exact .inl rfl
      | false =>
        have hacc : ¬ acc < budget := not_and'.mp hstop hhalt
        exact .inr (by omega)

/-! ### What the host keeps (R422, R426) -/

theorem afterDeliver_inv (v : Nat) {s : State} (hs : s.Inv) : (afterDeliver v s).Inv := by
  rcases deliver_cases v s with ⟨-, hd⟩ | ⟨-, -, hd⟩ | ⟨-, -, hd⟩ <;> rw [afterDeliver, hd]
  · exact hs
  · exact hs
  · exact s.enterVector_wf v s.pc hs

theorem hostAct_inv (act : HostAction) (s t : State) (hs : s.Inv) (h : hostAct act s = .next t) : t.Inv := by
  cases act with
  | step => exact step_inv hs h
  | deliver v => exact Host.Outcome.next.inj h ▸ afterDeliver_inv v hs
  | input1 v | input2 v | takeSound => exact Host.Outcome.next.inj h ▸ hs

theorem loadImage_inv (base : Nat) (image : List Byte) (s t : State) (hs : s.Inv)
    (h : loadImage base image s = .loaded t) : t.Inv := by
  rcases loadImage_cases base image s with ⟨-, m, hl, hm⟩ | ⟨-, hl⟩ <;> rw [hl] at h <;> cases h
  rw [hm]
  exact s.writeBytes_wf image _ hs

/-- Whatever state a call of `run_for_budget` is done in, the loop came to it by instructions. -/
theorem budgetLoop_inv {cost : CycleTable} {budget : Int} {turns : Nat} {acc left : Int} {s t : State} (hs : s.Inv)
    (h : budgetLoop cost budget turns acc s = .done t left) : t.Inv := by
  induction turns generalizing acc s with
  | zero => cases h
  | succ turns ih =>
    rcases budgetLoop_succ_cases cost budget turns acc s with ⟨u, taken, hloop, -, hexec, -⟩ | ⟨op, hloop⟩ |
      ⟨-, hloop⟩ <;> rw [hloop] at h
    · exact ih (exec_inv hs hexec) h
    · cases h
    · cases h
      exact hs

/-- A tick that is done has made both of its calls and both of its deliveries. -/
theorem tick_done {cost : CycleTable} {half1 half2 carried left : Int} {turns : Nat} {s t : State}
    (h : tick cost half1 half2 carried turns s = .done t left) :
    ∃ s1 left1 s2, runForBudget cost (half1 - carried) turns s = .done s1 left1 ∧
      runForBudget cost (half2 - left1) turns (afterDeliver 1 s1) = .done s2 left ∧ t = afterDeliver 2 s2 := by
  unfold tick at h
  cases h1 : runForBudget cost (half1 - carried) turns s with
  | done s1 left1 =>
    rw [h1] at h
    cases h2 : runForBudget cost (half2 - left1) turns (afterDeliver 1 s1) with
    | done s2 left2 =>
      simp only [h2] at h
      cases h
      exact ⟨s1, left1, s2, rfl, h2, rfl⟩
    | _ => simp only [h2] at h; cases h
  | _ => rw [h1] at h; cases h

end Sys2Proof.Machine
end

section
/-! The obligations about the host and its scheduler. -/

namespace Sys2Proof

open Machine

/-- Settles O4: a step, a delivery and an image load write memory by writes that keep the canonical form; a tick is two
calls of the loop with a delivery after each. -/
theorem hostActionsKeepInvariant : Obligations.HostActionsKeepInvariant := by
  refine ⟨hostAct_inv, loadImage_inv, fun cost half1 half2 carried left turns s t hs h => ?_⟩
  obtain ⟨s1, left1, s2, h1, h2, rfl⟩ := tick_done h
  exact afterDeliver_inv 2 (budgetLoop_inv (afterDeliver_inv 1 (budgetLoop_inv hs h1)) h2)

/-- Settles O60: the loop is unrolled by one turn; each turn costs at least 1; without budget there is no turn. -/
theorem runForBudgetEnds : Obligations.RunForBudgetEnds := by
  refine fun cost budget s => ⟨fun acc r => ?equation, fun hcost turns hturns => ?ends, one_le_defaultCycles,
    fun hbudget r => ?noBudget⟩
  case equation =>
    split
    · next h => exact loopReturns_body h
    · next h => exact loopReturns_stop h
  case ends => exact budgetLoop_endsProperly hcost budget turns 0 s (by simpa using hturns)
  case noBudget =>
    have hstop : ¬((0 : Int) < budget ∧ s.halt = false) := fun h => absurd h.1 (not_lt.mpr hbudget)
    rw [BudgetReturns, loopReturns_stop hstop, zero_sub]

end Sys2Proof
end

section
/-! Memory as data (20_memory.md section 1): the cells of a canonical list are the addresses with a byte other than 0. -/

namespace Sys2Proof.Machine

/-- In a list of rising addresses, a listed cell is what its address reads. -/
theorem Memory.read_of_mem {m : Memory} (hm : m.Pairwise fun x y => x.1 < y.1) {cell : Host.Cell} (hc : cell ∈ m) :
    m.read cell.1 = cell.2 := by
  induction m with
  | nil => cases hc
  | cons x m ih =>
    obtain ⟨hx, hm⟩ := List.pairwise_cons.mp hm
    rcases List.mem_cons.mp hc with rfl | hc
    · exact if_pos rfl
    · have hne : x.1 ≠ cell.1 := (hx cell hc).ne
      rw [Memory.read, if_neg hne, ih hm hc]

/-- An address that reads another byte than 0 is listed with it. -/
theorem Memory.mem_of_read_ne_zero {m : Memory} {addr : Nat} (h : m.read addr ≠ 0) : (addr, m.read addr) ∈ m := by
  induction m with
  | nil => exact absurd rfl h
  | cons x m ih =>
    by_cases hx : x.1 = addr
    · rw [Memory.read, if_pos hx, ← hx]
      exact List.mem_cons_self
    · rw [Memory.read, if_neg hx] at h ⊢
      exact List.mem_cons_of_mem _ (ih h)

/-- The cells of a canonical list, by what its addresses read. -/
theorem Memory.mem_iff_of_wf {m : Memory} (hm : m.wf = true) (cell : Host.Cell) :
    cell ∈ m ↔ cell.1 < 65536 ∧ cell.2 ≠ 0 ∧ m.read cell.1 = cell.2 := by
  obtain ⟨hrising, hcells⟩ := m.wf_iff.mp hm
  constructor
  · intro hc
    obtain ⟨haddr, hbyte⟩ := hcells cell hc
    exact ⟨haddr, hbyte, Memory.read_of_mem hrising hc⟩
  · rintro ⟨-, hbyte, hread⟩
    have hc := Memory.mem_of_read_ne_zero (hread ▸ hbyte)
    rwa [hread] at hc

/-- Settles O5: two canonical lists that read alike have the same cells, and both are in rising order. -/
theorem equalBytesEqualMemory : Obligations.EqualBytesEqualMemory := by
  intro m n hm hn hread
  have hcells : ∀ cell, cell ∈ m ↔ cell ∈ n := by
    intro cell
    rw [Memory.mem_iff_of_wf hm, Memory.mem_iff_of_wf hn]
    refine and_congr_right fun haddr => ?_
    have hcell : (BitVec.ofNat 16 cell.1).toNat = cell.1 := Nat.mod_eq_of_lt haddr
    rw [← hcell, hread]
  have hasymm : Std.Asymm fun x y : Host.Cell => x.1 < y.1 := ⟨fun _ _ => Nat.lt_asymm⟩
  obtain ⟨hmRising, -⟩ := m.wf_iff.mp hm
  obtain ⟨hnRising, -⟩ := n.wf_iff.mp hn
  exact hmRising.eq_of_mem_iff hnRising hcells

end Sys2Proof.Machine
end

section
/-! The image load (20_memory.md R77). -/

namespace Sys2Proof

open Machine

/-- Settles O59: the bytes stand at ascending addresses that do not wrap, and nothing but memory is written. -/
theorem loadImageWritesAllOrNothing : Obligations.LoadImageWritesAllOrNothing := by
  intro base image s
  rcases loadImage_cases base image s with ⟨hfits, m, hload, hm⟩ | ⟨hfits, hload⟩
  · rw [if_pos hfits]
    refine ⟨_, hload, fun k hk => ?inside, fun x hx => ?outside, fun r _ => ?regs, rfl, rfl, rfl, RestSame.refl s⟩
    case inside =>
      rw [hm, BitVec.ofNat_add]
      exact s.writeBytes_inside image _ k hk (by omega)
    case outside =>
      rw [hm]
      refine s.writeBytes_outside image _ x fun k hk hxk => ?_
      have htoNat : x.toNat = base + k := by
        rw [hxk, ← BitVec.ofNat_add, BitVec.toNat_ofNat]
        exact Nat.mod_eq_of_lt (by omega)
      omega
    case regs => cases r <;> rfl
  · rw [if_neg hfits, hload]

end Sys2Proof
end

section
/-! DAA (42_arithmetic.md R224), the bit operations and the comparison (43_logical.md): their results and flags. -/

namespace Sys2Proof.Machine

/-! ### DAA, step by step -/

section
variable (reading : DaaHi) (a : Byte) (ac cy : Bool)

theorem daaStep1_iff : daaStep1 a ac = true ↔ 9 < a.toNat % 16 ∨ ac = true := by
  simp [daaStep1, lowNibble]

theorem toNat_daaA1 : (daaA1 a ac).toNat = if daaStep1 a ac then (a.toNat + 6) % 256 else a.toNat := by
  rw [daaA1, apply_ite BitVec.toNat]
  rfl

theorem daaStep2With_iff :
    daaStep2With reading a ac cy = true ↔ 9 < daaHighWith reading a ac ∨ cy = true := by
  simp [daaStep2With]

theorem toNat_daaResultWith :
    (daaResultWith reading a ac cy).toNat =
      if daaStep2With reading a ac cy then ((daaA1 a ac).toNat + 96) % 256 else (daaA1 a ac).toNat := by
  rw [daaResultWith, apply_ite BitVec.toNat]
  rfl

end

/-- DAA leaves in `AC` and `CY` which steps were taken, and the `Z`, `S`, `P` of its result. -/
theorem Flags.afterDaaWith_spec (reading : DaaHi) (f : Flags) (a : Byte) :
    (f.afterDaaWith reading a).ac = daaStep1 a f.ac ∧
      (f.afterDaaWith reading a).cy = daaStep2With reading a f.ac f.cy ∧
      ZspOf (f.afterDaaWith reading a) (daaResultWith reading a f.ac f.cy) ∧ UnusedSame f (f.afterDaaWith reading a) :=
  ⟨rfl, rfl, Flags.setZSP_zspOf _ _, rfl, rfl, rfl⟩

/-! ### Bit operations -/

/-- `LogicCore` (43_logical.md R250) and its frame. -/
theorem logicCore_effect (op : LogicOp) (x : Src) (s : State) :
    ∃ t, logicCore op x s = .next t ∧ t.a = logicResult op s.a (s.src x) ∧ ZspOf t.f t.a ∧ t.f.cy = false ∧
      t.f.ac = logicAux op s.a (s.src x) ∧ UnusedSame s.f t.f ∧ t.pc = s.pc + BitVec.ofNat 16 x.length ∧
      RegsSameBut [.a] s t ∧ t.sp = s.sp ∧ MemorySame s t ∧ RestSame s t := by
  obtain ⟨t, ht, ha, hf, frame⟩ := effect_of_setReg_setFlags .a (logicResult op s.a (s.src x))
    (s.f.afterLogic op s.a (s.src x)) x.length (rfl : logicCore op x s = _)
  obtain ⟨hcy, hac, hzsp, hunused⟩ := s.f.afterLogic_spec op s.a (s.src x)
  have hresult : t.a = logicResult op s.a (s.src x) := ha
  refine ⟨t, ht, hresult, ?_⟩
  rw [hresult, hf]
  exact ⟨hzsp, hcy, hac, hunused, frame⟩

theorem encode_logic (x : Src) :
    encode (Form.ana x) = aluBytes 0b100 x ∧ encode (Form.xra x) = aluBytes 0b101 x ∧
      encode (Form.ora x) = aluBytes 0b110 x ∧ encode (Form.cmp x) = aluBytes 0b111 x := by
  cases x with
  | reg r => cases r <;> exact ⟨rfl, rfl, rfl, rfl⟩
  | m | imm v => exact ⟨rfl, rfl, rfl, rfl⟩

/-! ### Instructions that write only `F` -/

/-- An instruction of `n` bytes that writes `F` and goes on: CMP, STC and CMC. -/
theorem effect_of_setFlags (f : Flags) (n : Nat) {s : State} {o : Result}
    (ho : o = .next ((s.setFlags f).advance n)) :
    ∃ t, o = .next t ∧ t.f = f ∧ t.pc = s.pc + BitVec.ofNat 16 n ∧ RegsSameBut [] s t ∧ t.sp = s.sp ∧
      MemorySame s t ∧ RestSame s t :=
  ⟨_, ho, by simp, by simp, fun r _ => by simp, by simp, fun x => by simp, by simp⟩

/-- STC and CMC. -/
theorem effect_of_setCY (b : Bool) {s : State} {o : Result} (ho : o = .next ((s.setFlags (s.f.setCY b)).advance 1)) :
    ∃ t, o = .next t ∧ t.f.cy = b ∧ OnlyCarryMayChange s.f t.f ∧ t.pc = s.pc + 1 ∧ RegsSameBut [] s t ∧ t.sp = s.sp ∧
      MemorySame s t ∧ RestSame s t := by
  obtain ⟨t, ht, hf, frame⟩ := effect_of_setFlags (s.f.setCY b) 1 ho
  refine ⟨t, ht, ?_⟩
  rw [hf]
  exact ⟨rfl, s.f.setCY_onlyCarry b, frame⟩

theorem subResult_eq_zero_iff (x y : Byte) : subResult x y false = 0 ↔ x = y := by
  rw [subResult]
  bv_omega

end Sys2Proof.Machine
end

section
/-! DAA's obligation and those of 43_logical.md, with SPHL, which stands beside CMA, STC and CMC. -/

namespace Sys2Proof

open Machine

/-- Settles O29: the two steps are the model's own, read as integers. -/
theorem daaAdjusts : Obligations.DaaAdjusts := by
  refine ⟨rfl, .of_encode rfl rfl rfl, fun s => ?_⟩
  obtain ⟨t, ht, ha, hf, frame⟩ := effect_of_setReg_setFlags .a (daaResultWith Config.daaHi s.a s.f.ac s.f.cy)
    (s.f.afterDaaWith Config.daaHi s.a) 1 (rfl : exec .daa s = _)
  obtain ⟨hac, hcy, hzsp, hunused⟩ := s.f.afterDaaWith_spec Config.daaHi s.a
  have hresult : t.a = daaResultWith Config.daaHi s.a s.f.ac s.f.cy := ha
  refine ⟨t, (daaA1 s.a s.f.ac).toNat, daaHighWith Config.daaHi s.a s.f.ac, daaStep1 s.a s.f.ac,
    daaStep2With Config.daaHi s.a s.f.ac s.f.cy, ht, daaStep1_iff _ _, toNat_daaA1 _ _, rfl, daaStep2With_iff _ _ _ _, ?_⟩
  rw [hresult, hf]
  exact ⟨toNat_daaResultWith _ _ _ _, hac, hcy, hzsp, hunused, frame⟩

/-- Settles O30: `LogicCore` with AND, whose `AC` is the open function of the result it writes. -/
theorem andInstructionsAnd : Obligations.AndInstructionsAnd := by
  intro x
  obtain ⟨hana, -, -, -⟩ := encode_logic x
  refine ⟨hana, costs_of_aluBytes hana, fun s => ?_⟩
  rw [exec_ana]
  obtain ⟨t, ht, ha, hzsp, hcy, hac, frame⟩ := logicCore_effect .and x s
  refine ⟨t, ht, fun k _ => ?_, hzsp, hcy, ?_, frame⟩
  · rw [ha, logicResult, BitVec.getLsbD_and]
  · rw [hac, ha, logicAux]

/-- Settles O31: `LogicCore` with XOR and with OR. -/
theorem xorAndOrInstructions : Obligations.XorAndOrInstructions := by
  intro x
  obtain ⟨-, hxra, hora, -⟩ := encode_logic x
  refine ⟨hxra, costs_of_aluBytes hxra, hora, costs_of_aluBytes hora, fun s => ⟨?_, ?_⟩⟩
  · rw [exec_xra]
    obtain ⟨t, ht, ha, frame⟩ := logicCore_effect .xor x s
    refine ⟨t, ht, fun k _ => ?_, frame⟩
    rw [ha, logicResult, BitVec.getLsbD_xor]
  · rw [exec_ora]
    obtain ⟨t, ht, ha, frame⟩ := logicCore_effect .or x s
    refine ⟨t, ht, fun k _ => ?_, frame⟩
    rw [ha, logicResult, BitVec.getLsbD_or]

/-- Settles O32: the flags are those of a subtraction whose result is 0 where the operands are equal. -/
theorem compareInstructionsCompare : Obligations.CompareInstructionsCompare := by
  intro x
  obtain ⟨-, -, -, hcmp⟩ := encode_logic x
  refine ⟨hcmp, costs_of_aluBytes hcmp, fun s => ?_⟩
  obtain ⟨t, ht, hf, frame⟩ := effect_of_setFlags (s.f.afterSub s.a (s.src x) false) x.length (exec_cmp x s)
  have hsub : SubtractsFromA s t (s.src x) 0 (subResult s.a (s.src x) false) := subtractsFromA_of_afterSub hf
  have ⟨_, hcy, _, ⟨hz, _⟩, _⟩ := hsub
  exact ⟨t, _, ht, hsub, hz.trans (subResult_eq_zero_iff _ _), hcy, frame⟩

/-- Settles O33: CMA writes `A`, STC and CMC write `CY`, SPHL writes `SP`. -/
theorem unnamedOneByteInstructionsExecute : Obligations.UnnamedOneByteInstructionsExecute := by
  refine ⟨rfl, .of_encode rfl rfl rfl, rfl, .of_encode rfl rfl rfl, rfl, .of_encode rfl rfl rfl, rfl,
    .of_encode rfl rfl rfl, fun s => ⟨?cma, effect_of_setCY true rfl, effect_of_setCY (!s.f.cy) rfl, ?sphl⟩⟩
  case cma =>
    obtain ⟨t, ht, ha, hpc, hregs, hsp, hmem, hf, hrest⟩ := effect_of_setReg .a (~~~s.a) 1 (rfl : exec .cma s = _)
    have hnot : t.a = ~~~s.a := ha
    refine ⟨t, ht, fun k hk => ?_, hf, hpc, hregs, hsp, hmem, hrest⟩
    rw [hnot, BitVec.getLsbD_not, decide_eq_true hk, Bool.true_and]
  case sphl =>
    obtain ⟨t, ht, hsp, hpc, hregs, -, hmem, hf, hrest⟩ := effect_of_setPair .sp s.hl 1 (rfl : exec .sphl s = _)
    exact ⟨t, ht, hsp, hpc, hregs, hf, hmem, hrest⟩

end Sys2Proof
end

section
/-! The stack (45_branch.md, 46_stack.md): what a pop, a return and a restart leave, and that a pop behind a push gives back
what was pushed. -/

namespace Sys2Proof.Machine

/-! ### Returns and restarts -/

section
variable {s : State} {o : Result}

/-- An instruction that pops `PC`: RET and an Rcond taken. -/
theorem effect_of_returnFrom (ho : o = .next s.returnFrom) :
    ∃ t, o = .next t ∧ t.pc = joinBytes (s.readByte (s.sp + 1)) (s.readByte s.sp) ∧ t.sp = s.sp + 2 ∧
      RegsSameBut [] s t ∧ t.f = s.f ∧ MemorySame s t ∧ RestSame s t :=
  ⟨_, ho, by rw [State.returnFrom_pc]; rfl, by simp, fun r _ => by simp, by simp, fun x => by simp, by simp⟩

end

theorem returnIf_of_holds {k : Cond} {s : State} (hk : k.holds s.f = true) : returnIf k s = .next s.returnFrom :=
  if_pos hk

theorem returnIf_of_not_holds {k : Cond} {s : State} (hk : ¬ k.holds s.f = true) :
    returnIf k s = .next (s.jump (s.pc + 1)) := if_neg hk

theorem exec_ret (s : State) : exec .ret s = .next s.returnFrom := rfl

/-- A return behind a transfer that pushed its return address goes back there, and `SP` is what it was. -/
theorem returnFrom_push16_jump (s : State) (returnAddr target : Word) :
    ((s.push16 returnAddr).jump target).returnFrom.pc = returnAddr ∧
      ((s.push16 returnAddr).jump target).returnFrom.sp = s.sp := by
  simp

/-! ### Pushes and pops of a pair -/

section
variable {s : State} {o : Result}

/-- An instruction of `n` bytes that pushes a word and goes on. -/
theorem effect_of_push16 (v : Word) (n : Nat) (ho : o = .next ((s.push16 v).advance n)) :
    ∃ t, o = .next t ∧ t.readByte (s.sp - 1) = hiByte v ∧ t.readByte (s.sp - 2) = loByte v ∧ t.sp = s.sp - 2 ∧
      t.pc = s.pc + BitVec.ofNat 16 n ∧ MemorySameBut [s.sp - 1, s.sp - 2] s t ∧ RegsSameBut [] s t ∧ t.f = s.f ∧
      RestSame s t := by
  refine ⟨_, ho, ?_, ?_, by simp, by simp, fun x hx => ?_, fun r _ => by simp, by simp, by simp⟩
  · rw [State.advance_readByte, State.push16_readByte_high]
  · rw [State.advance_readByte, State.push16_readByte_low]
  · rw [State.advance_readByte, s.push16_memorySameBut v x hx]

end

section
variable (s : State) (p : StackPair)

/-- A pop leaves the registers outside its pair. -/
theorem State.setStackPair_reg_of_not_mem {r : Reg} (hr : r ∉ p.regs) (v : Word) :
    (s.setStackPair p v).reg r = s.reg r := by
  cases p with
  | bc => exact s.setPair_reg_of_not_mem (p := .bc) hr v
  | de => exact s.setPair_reg_of_not_mem (p := .de) hr v
  | hl => exact s.setPair_reg_of_not_mem (p := .hl) hr v
  | psw =>
    cases r with
    | a => exact absurd (by decide) hr
    | b | c | d | e | h | l => rfl

/-- A pair written with its own value is as before. -/
theorem State.setStackPair_self : s.setStackPair p (s.stackPair p) = s := by
  cases p <;> simp [State.setStackPair, State.stackPair, State.setBC, State.setDE, State.setHL, State.setPSW,
    State.bc, State.de, State.hl, State.psw]

/-- A pop behind a push of the same pair writes the pair with the value it still has. -/
theorem exec_pop_after_push :
    exec (Form.pop p) ((s.push16 (s.stackPair p)).advance 1) =
      .next (((s.push16 (s.stackPair p)).advance 1).drop16.advance 1) := by
  have htop : ((s.push16 (s.stackPair p)).advance 1).top16 =
      ((s.push16 (s.stackPair p)).advance 1).drop16.stackPair p := by
    rw [State.advance_top16, State.push16_top16]
    cases p <;> simp [State.stackPair, State.bc, State.de, State.hl, State.psw]
  rw [exec_pop, popPair, htop, State.setStackPair_self]

end

/-! ### The flags byte (10_state.md R28) -/

theorem Flags.toByte_getLsbD (f : Flags) :
    f.toByte.getLsbD 7 = f.s ∧ f.toByte.getLsbD 6 = f.z ∧ f.toByte.getLsbD 5 = f.bit5 ∧ f.toByte.getLsbD 4 = f.ac ∧
      f.toByte.getLsbD 3 = f.bit3 ∧ f.toByte.getLsbD 2 = f.p ∧ f.toByte.getLsbD 1 = f.bit1 ∧
      f.toByte.getLsbD 0 = f.cy := by
  have hf : Flags.ofByte f.toByte = f := f.ofByte_toByte
  exact ⟨congrArg Flags.s hf, congrArg Flags.z hf, congrArg Flags.bit5 hf, congrArg Flags.ac hf,
    congrArg Flags.bit3 hf, congrArg Flags.p hf, congrArg Flags.bit1 hf, congrArg Flags.cy hf⟩

end Sys2Proof.Machine
end

section
/-! The obligations of 45_branch.md about returns and restarts, those of 46_stack.md about pairs, and the equivalence of a
delivery with a restart (60_exceptions.md section 2). -/

namespace Sys2Proof

open Machine

/-- Settles O37: RET and an Rcond taken pop `PC`, an Rcond not taken jumps to the next instruction. -/
theorem returnsPopThePc : Obligations.ReturnsPopThePc := by
  refine ⟨rfl, .of_encode rfl rfl rfl, fun s => effect_of_returnFrom (exec_ret s), fun k => ⟨?_, ?_, fun s => ?_⟩⟩
  · cases k <;> rfl
  · cases k <;> exact .of_encode rfl rfl rfl
  · rw [exec_rcond]
    by_cases hk : k.holds s.f = true
    · obtain ⟨t, ht, hpc, hsp, frame⟩ := effect_of_returnFrom (returnIf_of_holds hk)
      exact ⟨t, ht, (if_pos hk).mpr ⟨hpc, hsp⟩, frame⟩
    · obtain ⟨t, ht, hpc, hregs, hf, hsp, hmem, hrest⟩ := effect_of_jump _ (returnIf_of_not_holds hk)
      exact ⟨t, ht, (if_neg hk).mpr ⟨hpc, hsp⟩, hregs, hf, hmem, hrest⟩

/-- Settles O39: RST pushes `PC+1` and jumps to its vector. -/
theorem restartIsAOneByteCall : Obligations.RestartIsAOneByteCall := by
  refine fun n => ⟨?_, ?_, fun s => ?_⟩
  · match n with | 0 | 1 | 2 | 3 | 4 | 5 | 6 | 7 => rfl
  · match n with | 0 | 1 | 2 | 3 | 4 | 5 | 6 | 7 => exact .of_encode rfl rfl rfl
  · obtain ⟨t, ht, hpc, frame⟩ := effect_of_push16_jump (s.pc + 1) _ (exec_rst n s)
    exact ⟨t, ht, hpc ▸ toNat_vectorAddress (Nat.le_of_lt_succ n.isLt), frame⟩

/-- Settles O41: all three push the return address and jump; a taken delivery also clears `IE`. -/
theorem returnResumesBehindTheCall : Obligations.ReturnResumesBehindTheCall := by
  refine fun s => ⟨fun addr => ?call, fun n => ?rst, fun v hv hie => ?delivery⟩
  case call => exact ⟨_, _, rfl, exec_ret _, returnFrom_push16_jump s (s.pc + 3) addr⟩
  case rst => exact ⟨_, _, exec_rst n s, exec_ret _, returnFrom_push16_jump s (s.pc + 1) _⟩
  case delivery =>
    exact ⟨_, _, deliver_of_armed hv hie, exec_ret _, by simp, by simp, by simp, fun r _ => by simp, by simp, by simp⟩

/-- Settles O52: moved back by one, RST pushes the `PC` that the delivery pushes, and both jump to the same vector. -/
theorem deliveryIsRestartThenDi : Obligations.DeliveryIsRestartThenDi := by
  intro n s hie
  refine ⟨_, exec_rst n _, ?_⟩
  have hpc : s.pc - 1 + 1 = s.pc := BitVec.sub_add_cancel _ _
  rw [deliver_of_armed (Nat.le_of_lt_succ n.isLt) hie, hpc]
  rfl

/-- Settles O42: every form pushes its pair, and each flag is a bit of the byte of `F`. -/
theorem pushStoresThePair : Obligations.PushStoresThePair := by
  refine ⟨fun p => ⟨?_, ?_, fun s => ?_⟩, Flags.toByte_getLsbD⟩
  · cases p <;> rfl
  · cases p <;> exact .of_encode rfl rfl rfl
  · obtain ⟨t, ht, hhigh, hlow, frame⟩ := effect_of_push16 (s.stackPair p) 1 (exec_push p s)
    refine ⟨t, ht, hhigh.trans ?_, hlow.trans ?_, frame⟩
    · cases p <;> exact hiByte_joinBytes _ _
    · cases p <;> exact loByte_joinBytes _ _

/-- Settles O43: every form writes its pair with the word on top of the stack. -/
theorem popLoadsThePair : Obligations.PopLoadsThePair := by
  refine fun p => ⟨?_, ?_, fun s => ⟨_, exec_pop p s, ?_, by simp, by simp, fun r hr => ?_, fun x => by simp, by simp⟩⟩
  · cases p <;> rfl
  · cases p <;> exact .of_encode rfl rfl rfl
  · cases p <;> simp [State.setStackPair, State.top16]
  · simpa using s.drop16.setStackPair_reg_of_not_mem p hr s.top16

/-- Settles O44: the pop writes the pair with the value pushed, which it still has. -/
theorem pushThenPopRestores : Obligations.PushThenPopRestores := by
  intro p s
  exact ⟨_, _, exec_push p s, exec_pop_after_push s p, fun r _ => by simp, by simp, by simp, by simp [BitVec.add_assoc]⟩

end Sys2Proof
end

section
/-! IN and OUT (47_io.md, 60_exceptions.md R430 to R438): what each port gives and takes. -/

namespace Sys2Proof.Machine

/-! ### IN -/

theorem exec_inPort (port : Byte) (s : State) :
    exec (.inPort port) s = .next (((s.afterPortIn port).setReg .a (s.portIn port)).advance 2) := rfl

/-- The window as the byte of the shifted integer (R436). -/
theorem shiftWindow_eq_ofNat (hi lo : Byte) (off : BitVec 3) :
    shiftWindow hi lo off = BitVec.ofNat 8 ((hi.toNat * 256 + lo.toNat) / 2 ^ (8 - off.toNat)) :=
  BitVec.eq_of_toNat_eq ((toNat_shiftWindow hi lo off).trans (BitVec.toNat_ofNat _ 8).symm)

theorem afterPortIn_draws (port : Byte) (s : State) :
    (s.afterPortIn port).draws = if port = 1 ∨ port = 2 ∨ port = 3 then s.draws else s.draws + 1 := by
  rcases portIn_cases s port with ⟨rfl, -, h⟩ | ⟨rfl, -, h⟩ | ⟨rfl, -, h⟩ | ⟨⟨h1, h2, h3⟩, -, h⟩ <;> rw [h]
  · rfl
  · rfl
  · rfl
  · exact (if_neg (not_or.mpr ⟨h1, not_or.mpr ⟨h2, h3⟩⟩)).symm

/-! ### OUT -/

theorem risingBits_getLsbD (old new : Byte) {k : Nat} (hk : k < 8) :
    (risingBits old new).getLsbD k = (!old.getLsbD k && new.getLsbD k) := by
  rw [risingBits, BitVec.getLsbD_and, BitVec.getLsbD_not, decide_eq_true hk, Bool.true_and, Bool.and_comm]

theorem emitSound_eq_append (sound : List SoundEmission) (port : SoundPort) (bits : Byte) :
    emitSound sound port bits = sound ++ if bits = 0 then [] else [⟨port, bits⟩] := by
  rw [emitSound]
  split
  · rw [List.append_nil]
  · rfl

theorem portOut_of_no_function {port : Byte} (h2 : port ≠ 2) (h3 : port ≠ 3) (h4 : port ≠ 4) (h5 : port ≠ 5) (v : Byte)
    (s : State) : s.portOut port v = s := by
  rw [State.portOut, if_neg h2, if_neg h4, if_neg h3, if_neg h5]

end Sys2Proof.Machine
end

section
/-! The obligations of 47_io.md, and EI and HLT (48_control.md R371, R373). -/

namespace Sys2Proof

open Machine

/-- Settles O45: the value and the count of free values by port, the frame for all ports at once. -/
theorem inReadsThePort : Obligations.InReadsThePort := by
  refine fun port => ⟨rfl, .of_encode rfl rfl rfl, fun s => ⟨_, exec_inPort port s, ?value, ?draws, by simp,
    fun r hr => ?regs, by simp, by simp, fun x => by simp, by simp [ControlSame], by simp [InputsSame],
    by simp [ShifterSame], by simp [SoundSame]⟩⟩
  case value => rw [← shiftWindow_eq_ofNat]; rfl
  case draws => exact afterPortIn_draws port s
  case regs =>
    have hra : r ≠ .a := by simpa using hr
    simp [hra]

/-- Settles O48: ports 3 and 5 write their latch and emit the bits that rise, the ports without function do nothing. -/
theorem outSoundAndOtherPorts : Obligations.OutSoundAndOtherPorts := by
  refine ⟨fun port => ⟨rfl, .of_encode rfl rfl rfl⟩, fun s => ⟨?port3, ?port5, fun port h2 h3 h4 h5 => ?other⟩⟩
  case port3 =>
    obtain ⟨hpc, hregs, hf, hsp, hmem, hcontrol, hinputs, hdraws⟩ := portOut_advance_frame 3 s.a (s := s) rfl
    exact ⟨_, risingBits s.snd3 s.a, exec_outPort 3 s, rfl, rfl, fun k => risingBits_getLsbD _ _,
      emitSound_eq_append _ _ _, hpc, hregs, hf, hsp, hmem, hcontrol, hinputs, ⟨rfl, rfl, rfl⟩, hdraws⟩
  case port5 =>
    obtain ⟨hpc, hregs, hf, hsp, hmem, hcontrol, hinputs, hdraws⟩ := portOut_advance_frame 5 s.a (s := s) rfl
    exact ⟨_, risingBits s.snd5 s.a, exec_outPort 5 s, rfl, rfl, fun k => risingBits_getLsbD _ _,
      emitSound_eq_append _ _ _, hpc, hregs, hf, hsp, hmem, hcontrol, hinputs, ⟨rfl, rfl, rfl⟩, hdraws⟩
  case other =>
    have hexec := exec_outPort port s
    rw [portOut_of_no_function h2 h3 h4 h5] at hexec
    obtain ⟨t, ht, hpc, frame⟩ := effect_of_jump (s.pc + 2) hexec
    exact ⟨t, ht, hpc, frame⟩

/-- Settles O50: EI and HLT each write one of `IE` and `HALT`. -/
theorem eiArmsAndHltHalts : Obligations.EiArmsAndHltHalts := by
  refine ⟨rfl, .of_encode rfl rfl rfl, rfl, .of_encode rfl rfl rfl, fun s => ⟨?ei, ?hlt⟩⟩
  case ei => exact effect_of_advance_setControl true s.halt rfl
  case hlt =>
    obtain ⟨t, ht, hie, hhalt, frame⟩ := effect_of_advance_setControl s.ie true (rfl : exec .hlt s = _)
    exact ⟨t, ht, hhalt, hie, frame⟩

end Sys2Proof
end
